-- ==== Sys2Proof/Word.lean ====
section
/-! DEFINITION. The word types of the BD-624: what the document treats as bits. -/

namespace Sys2Proof

/-- A register of the window, a character's value, a node address (R17, R189). -/
abbrev Byte := BitVec 8

/-- A topic number, 0 to 4095 (Table 19). -/
abbrev Topic := BitVec 12

/-- A sequence number, 0 to 63 (Table 19). -/
abbrev Seq := BitVec 6

/-- A tick count or a stamp taken from it (R4). -/
abbrev Stamp := BitVec 16

/-- An address of the register window, 0x00 to 0x7F (R188). -/
abbrev RegAddr := BitVec 7

/-- One bit for each of the ten pending flags (Table 86). -/
abbrev FlagSet := BitVec 10

end Sys2Proof
end

