-- ==== Sys2Proof/Syntax.lean ====
section
/-! DEFINITION. The commands of the BD-624: one constructor for each row of spec/opcode_table.json. -/

namespace Sys2Proof

/-- The seven locked configuration registers (R194). -/
inductive LockedReg where
  | ownAddress | lineRate | filterMode | hashOn | tickShift | settleSel | idleHold
deriving DecidableEq, Repr

/-- Where the ten bit times of the first-character decision lie on the line, as far as R9 and R15 tell it
apart: the ten samples alone do not show it (notes/assumptions/26.md). -/
inductive TenBitsPlace where
  /-- Neither of the two below: they end before the delimiter begins, are the delimiter, or meet no frame. -/
  | clear
  /-- They begin inside the preamble and run into the delimiter. -/
  | intoDelimiter
  /-- They begin after the delimiter has started: inside it, a header or a payload. -/
  | inFrame
deriving DecidableEq, Repr

/-- The ten bit times of the first-character decision: bit k is the k-th sample (R9). -/
structure TenBits where
  bits  : BitVec 10
  place : TenBitsPlace
deriving DecidableEq, Repr

/-- The line events that can end a frame while a source command waits (R28, R52): the end of a
character, truncation, and entry to STUCK. -/
inductive FrameEnding where
  /-- A character ends: eight data samples, stop-bit sample, level of LRX afterwards. -/
  | characterEnd (data : Byte) (stop level : Bool)
  /-- Two character times of idle. -/
  | truncation
  /-- Thirty-two character times of low level. -/
  | entryToStuck
deriving DecidableEq, Repr

/-- The fifteen counters (Table 77). -/
inductive Counter where
  | framesGood | checkErrors | framingErrors | headerErrors | truncated | foreign | missedRising
  | duplicates | gapFrames | resyncs | qfullDrops | filtered | responsesSent | responseAborts
  | untracked
deriving DecidableEq, Repr

/-- Reports that arrive together with the taking of SOFT RESET and are taken after it (R169, R187): the
flags set, bit k the flag at bit k of Table 86, and the counters incremented, each named once for every
count. -/
structure LateReports where
  flags  : FlagSet
  counts : List Counter
deriving DecidableEq, Repr

/-- The events of the port that name no register of their own (R188, R190). -/
inductive PortEvent where
  /-- CS_N falls: a transaction begins. -/
  | select
  /-- The eighth rising SCK edge of the transaction's first byte. -/
  | command (byte : Byte)
  /-- The eighth rising SCK edge of a data byte of a read transaction. -/
  | dataRead
  /-- In a write transaction: of the reports that commands before have made, these arrive together with the
  data byte under way, and are taken after it if it is SOFT RESET's (R169, R187; notes/assumptions/24.md). -/
  | arrivals (late : LateReports)
  /-- CS_N rises: the transaction ends, and a byte that is not complete is discarded. -/
  | deselect
deriving DecidableEq, Repr

/-- The commands. A host command carries no operand: CMD_ARG and CMD_PARAM hold its argument and
parameter (R170, R171), and like every access it takes place where the port stands at its address.
Boolean levels are true for high. -/
inductive Instr where
  /-- VDD rises through 1.8 V (R199). -/
  | powerOnReset
  /-- RESET_N goes low (R199). -/
  | pinReset
  /-- The reset in force ends (R199). -/
  | resetEnd
  /-- The prescale count reaches the tick period (R3). -/
  | tick
  /-- The tick at which this slot's age reaches its max_age (R118). -/
  | staleWatchExpiry (slot : Nat)
  /-- The tick at which the hold-off countdown reaches 0 (R158). -/
  | holdOffExpiry
  /-- The tick at which the idle-hold countdown reaches 0 (R12). -/
  | idleHoldExpiry
  /-- A falling edge on LRX (R7). -/
  | lrxFallingEdge
  /-- The settle count is complete (R8). -/
  | settleCompletion
  /-- The ten bit times of the first-character decision end (R9). -/
  | firstCharacterDecision (samples : TenBits) (level : Bool)
  /-- A falling edge on LRX with no character in progress (R17). -/
  | characterStart
  /-- A character's stop bit time ends: bit k of data is the k-th data sample (R17). -/
  | characterEnd (data : Byte) (stop level : Bool)
  /-- The acceptance filter fixes its result (R68). -/
  | classificationCompletion
  /-- The idle time reaches two character times in HEADER or BODY (R31). -/
  | truncation
  /-- Two character times of idle within SKIP (R32). -/
  | endOfSkip
  /-- Two character times of idle while the bit stream is watched (R22). -/
  | huntWatchIdle
  /-- The low time reaches 32 character times (R33). -/
  | entryToStuck
  /-- The high time reaches four character times in STUCK (R34). -/
  | endOfStuck
  /-- Three character times of idle in WAITING (R138). -/
  | responseWaitEnd
  /-- One bit time passes after a transmitted start bit without a character start on LRX (R142). -/
  | missingEcho
  /-- The copy of a snapshot ends (R124). -/
  | copyCompletion
  /-- The clear of SOFT RESET ends (R180). -/
  | clearCompletion
  /-- The end of the frame that a source command waits for (R52). -/
  | deferredSourceCommand (ending : FrameEnding)
  /-- The classification completion that an entry command waits for (R77). -/
  | deferredEntryCommand
  | startLine
  | stopLine
  | pinSource
  | unpinSource
  | forgetSource
  | forgetUnpinned
  | readSource
  | commitEntry
  | clearEntry
  | readEntry
  | releaseHead
  | flushQueue
  | snapshotSlot
  | setSlotWatch
  | hostSleep
  | hostAwake
  | snapshotCounters
  | softReset
  | nop
  /-- A write to CMD of a code that names no command (R173). -/
  | unknownCommand (code : Byte)
  /-- A write to PENDING_L (high false) or PENDING_H (high true) (R150). -/
  | pendingClear (high : Bool) (value : Byte)
  /-- A write to CMD_FLAGS (R178). -/
  | cmdFlagsClear (value : Byte)
  /-- A write to IRQ_EN_L (high false) or IRQ_EN_H (high true) (R152). -/
  | irqEnWrite (high : Bool) (value : Byte)
  /-- A write to WATERMARK (R108). -/
  | watermarkWrite (value : Byte)
  /-- A write to a locked configuration register (R194). -/
  | lockedRegisterWrite (reg : LockedReg) (value : Byte)
  /-- A write to any other address of the window (R189). -/
  | registerWrite (addr : RegAddr) (value : Byte)
  | tickCountLRead
  | qusedLRead
  | freshSetLRead
  | mitCountLRead
  | qdataRead
  | sdataRead
  /-- The delimiter's ten-bit pattern is found on the watched grid (R22). -/
  | delimiterPattern (level : Bool)
  /-- A rising edge on LRX (R18, R33, R34). -/
  | lrxRisingEdge
  /-- A falling edge on LRX that is no character start (R34). -/
  | stuckFallingEdge
  /-- An SPI transaction: its start, its command byte, its data bytes read, what arrives with its data bytes
  written, its end (R188, R190). -/
  | commandByte (event : PortEvent)
deriving DecidableEq, Repr

end Sys2Proof
end

