-- ==== Sys2Proof/Config.lean ====
section
/-! DEFINITION. The figures the part fixes (00_scope.md Table 1 and the rules named below).
The document leaves no result value open, so there is no free value here. -/

namespace Sys2Proof.Config

/-- Entries of the source table (R40). -/
def sourceEntries : Nat := 24

/-- Entries of the acceptance table (R60). -/
def acceptanceEntries : Nat := 32

/-- Registers of the topic hash set (R64). -/
def hashRegisters : Nat := 64

/-- Bytes of record memory (R87). -/
def recordMemory : Nat := 4096

/-- Latest-value slots (R113). -/
def slotCount : Nat := 16

/-- The greatest valid payload length, and where the data ports' read positions stop (R20, R100, R128). -/
def maxPayload : Nat := 48

/-- Header bytes of a frame (R23). -/
def headerBytes : Nat := 6

/-- Characters of a response (R140). -/
def responseChars : Nat := 11

/-- The highest node address (R20, R195). -/
def maxNode : Nat := 247

/-- Where a live counter stops (R183). -/
def counterTop : Nat := 65535

/-- Where an entry's totals and a slot's unread stop (R47, R117). -/
def totalTop : Nat := 255

/-- Idle in character times that truncates a frame, ends SKIP and ends the watch for the delimiter (R22, R31, R32). -/
def frameGap : Nat := 2

/-- Idle in character times before a response (R138). -/
def responseDelay : Nat := 3

/-- High level in character times that ends STUCK (R34). -/
def stuckRecovery : Nat := 4

/-- The codes that name a command (Table 87). -/
def commandCodes : List Byte :=
  [0x01, 0x10, 0x11, 0x20, 0x21, 0x30, 0x31, 0x40, 0x41, 0x42, 0x50, 0x51, 0x52, 0x53, 0x54,
   0x60, 0x70, 0x71, 0x96]

/-- The addresses whose write is a row of the table of its own: CMD, CMD_FLAGS, PENDING, IRQ_EN,
the seven locked registers and WATERMARK (Table 82). -/
def ownRowAddresses : List RegAddr :=
  [0x06, 0x0A, 0x0B, 0x0C, 0x0D, 0x0E, 0x17, 0x18, 0x19, 0x1A, 0x1B, 0x1C, 0x1D, 0x33]

end Sys2Proof.Config
end

