-- ==== Sys2Proof/Machine/State.lean ====
section
/-! DEFINITION. The state of the BD-624 as plain data, one structure for each block, its value after
reset, and the reasons a step could stop (none is given by the document). -/

namespace Sys2Proof.Machine

/-! ### The names of the document -/

/-- Line states (Table 12). -/
inductive LineState where
  | dormant | listen | rising | active
deriving DecidableEq, Repr

/-- Receiver states (Table 21); OFF while the line receiver is not operating (R21). -/
inductive RxState where
  | off | hunt | header | body | skip | stuck
deriving DecidableEq, Repr

/-- How HUNT looks for a frame (R9, R22): the first-character decision open and its falling edge not
yet seen, its ten bit times running, the bit stream watched for the delimiter, or characters framed
by their start bits. Outside HUNT it is framed. -/
inductive HuntMode where
  | framed | decisionOpen | deciding | watching
deriving DecidableEq, Repr

/-- Kinds of frame; the fourth code is invalid (Table 19). -/
inductive Kind where
  | publish | send | response | fourth
deriving DecidableEq, Repr

/-- Verdicts (Table 27). -/
inductive Verdict where
  | accept | refuseFull | refuseFilter
deriving DecidableEq, Repr

/-- Relations (Table 28); GAP carries its gap size. -/
inductive Relation where
  | first | next | gap (size : Nat) | resync | retry | duplicate | untracked
deriving DecidableEq, Repr

/-- The kinds an acceptance entry matches (Table 33). -/
inductive KindSel where
  | publish | send | either
deriving DecidableEq, Repr

/-- Actions of a classification (Table 33). -/
inductive Action where
  | queue | latest | both | discard
deriving DecidableEq, Repr

/-- What decided a classification (Table 36). -/
inductive Match where
  | entry (index : Nat) | hash | openMode | nothing
deriving DecidableEq, Repr

/-- Slot states (Table 49). -/
inductive SlotState where
  | empty | fresh | seen | stale
deriving DecidableEq, Repr

/-- Host states (Table 69). -/
inductive HostState where
  | awake | asleep
deriving DecidableEq, Repr

/-- Results of commands (Table 73). -/
inductive CmdResult where
  | ok | state | arg | empty | notFound | full | aborted
deriving DecidableEq, Repr

/-- The ten pending flags, in the order of their bits (Tables 65 and 86). -/
inductive Flag where
  | rx | slot | stale | watermark | qfull | gap | lineFault | lineRecover | cmdDone | countSat
deriving DecidableEq, Repr

/-- The nineteen commands of the command unit (Table 87). -/
inductive Cmd where
  | nop | startLine | stopLine | releaseHead | flushQueue | snapshotSlot | setSlotWatch
  | commitEntry | clearEntry | readEntry | pinSource | unpinSource | forgetSource
  | forgetUnpinned | readSource | snapshotCounters | hostSleep | hostAwake | softReset
deriving DecidableEq, Repr

/-- Filter modes (R62). -/
inductive FilterMode where
  | closed | openMode
deriving DecidableEq, Repr

/-! ### The blocks -/

/-- The locked configuration registers (R194, R195). -/
structure LockedConfig where
  ownAddress : Byte
  lineRate   : BitVec 2
  filterMode : FilterMode
  hashOn     : Bool
  tickShift  : BitVec 3
  settleSel  : BitVec 2
  idleHold   : Byte
deriving DecidableEq, Repr

/-- The tick generator (R3, R4). -/
structure Tkg where
  prescale  : Nat
  tickCount : Stamp
  capture   : Stamp
deriving DecidableEq, Repr

/-- The clock and listen controller: the line state, the fast periods of the settle count under way
(R2), and the idle-hold countdown, none while stopped (R11). -/
structure Clc where
  line      : LineState
  settle    : Option Nat
  idleCount : Option Nat
deriving DecidableEq, Repr

/-- The header fields of a frame (Table 19). -/
structure Header where
  dest   : Byte
  source : Byte
  kind   : Kind
  seq    : Seq
  format : BitVec 4
  topic  : Topic
  length : Nat
deriving DecidableEq, Repr

/-- The frame assembly buffer (R38): header bytes and payload bytes as they arrived, the check
characters taken, and the running CRC. The header count of R23 is the number of header bytes. -/
structure FrameBuffer where
  hdr     : List Byte
  payload : List Byte
  checks  : Nat
  crc     : BitVec 16
deriving DecidableEq, Repr

/-- The line receiver. The four times are in whole character times as far as commands have reported
them, none while the time does not run (R18, R32, R33, R34; notes/assumptions/3.md). -/
structure Lrv where
  rx       : RxState
  mode     : HuntMode
  charBusy : Bool
  idle     : Option Nat
  low      : Option Nat
  high     : Option Nat
  skipIdle : Option Nat
  buffer   : FrameBuffer
deriving DecidableEq, Repr

/-- A source entry (Table 27). -/
structure SourceEntry where
  addr        : Byte
  lastSeq     : Option Seq
  lastVerdict : Option Verdict
  pinned      : Bool
  gapTotal    : Nat
  dupTotal    : Nat
  heard       : Stamp
deriving DecidableEq, Repr

/-- The relation in hand, with the frame's fields the source tracker holds (R42). toPart says that
the frame is a SEND to OWN_ADDRESS. -/
structure InHand where
  source   : Byte
  seq      : Seq
  kind     : Kind
  dest     : Byte
  toPart   : Bool
  relation : Relation
deriving DecidableEq, Repr

/-- The source window while it is valid: the position read and the entry as it stood (R57). -/
structure SourceWindow where
  pos   : Nat
  entry : SourceEntry
deriving DecidableEq, Repr

/-- The source tracker: position 0 of the recency order first (R40). -/
structure Srt where
  table  : List SourceEntry
  inHand : Option InHand
  window : Option SourceWindow
deriving DecidableEq, Repr

/-- An acceptance entry (Table 33); source none is ANY. -/
structure AcfEntry where
  valid     : Bool
  topicLow  : Topic
  topicHigh : Topic
  source    : Option Byte
  kinds     : KindSel
  action    : Action
  slot      : Option Nat
  urgent    : Bool
  hits      : Nat
deriving DecidableEq, Repr

/-- The staging entry as its registers hold it, illegal values included (Table 39, R75). -/
structure Staging where
  valid     : Bool
  topicLow  : Topic
  topicHigh : Topic
  source    : Byte
  kinds     : BitVec 2
  action    : Action
  slot      : Byte
  urgent    : Bool
  hitView   : Nat
deriving DecidableEq, Repr

/-- A classification result (Table 36); the gap size is in the relation. -/
structure Classified where
  action   : Action
  slot     : Option Nat
  urgent   : Bool
  matched  : Match
  relation : Relation
deriving DecidableEq, Repr

/-- A classification in flight, with the entry its search found (R65, R66). -/
structure ClassJob where
  hdr      : Header
  relation : Relation
  found    : Option (Nat × AcfEntry)
deriving DecidableEq, Repr

/-- The filter's copy of a result, and whether the matched entry was written or cleared since (R72). -/
structure HeldResult where
  result    : Classified
  rewritten : Bool
deriving DecidableEq, Repr

/-- The acceptance filter. -/
structure Acf where
  table   : List AcfEntry
  staging : Staging
  hash    : List Byte
  job     : Option ClassJob
  held    : Option HeldResult
deriving DecidableEq, Repr

/-- The relation flag of a record (Table 43). -/
inductive RelFlag where
  | nothing | first | gap (size : Nat) | resync | untracked
deriving DecidableEq, Repr

/-- A record of the receive queue (Table 43). -/
structure Record where
  source   : Byte
  topic    : Topic
  kind     : Kind
  seq      : Seq
  length   : Nat
  relation : RelFlag
  urgent   : Bool
  slot     : Option Nat
  matched  : Match
  stamp    : Stamp
  payload  : List Byte
deriving DecidableEq, Repr

/-- What the receive queue holds for the frame in flight: nothing, the reservation with the header
and result its record will carry (R91), or the queue-full mark (R92). -/
inductive Claim where
  | nothing
  | reserved (hdr : Header) (result : Classified)
  | queueFull
deriving DecidableEq, Repr

/-- The receive queue: records oldest first (R87, R90), the QDATA read position, the watermark, and
the captured fill figures (R105). -/
structure Rxq where
  records   : List Record
  claim     : Claim
  readPos   : Nat
  watermark : Nat
  arm       : Bool
  capUsed   : Nat
  capFree   : Nat
  capCount  : Nat
deriving DecidableEq, Repr

/-- What an update writes into a slot (R113, R116). -/
structure SlotContent where
  source  : Byte
  topic   : Topic
  seq     : Seq
  length  : Nat
  payload : List Byte
  stamp   : Stamp
deriving DecidableEq, Repr

/-- A latest-value slot (Table 48). -/
structure Slot where
  state    : SlotState
  content  : SlotContent
  unread   : Nat
  age      : Nat
  maxAge   : Nat
  deferred : Option SlotContent
deriving DecidableEq, Repr

/-- The snapshot in flight: its slot, and whether the slot was EMPTY at the taking (R122, R126). -/
structure SnapFlight where
  slot     : Nat
  wasEmpty : Bool
deriving DecidableEq, Repr

/-- The recorded values of the snapshot window (Table 51). -/
structure SnapWindow where
  slot    : Nat
  state   : SlotState
  unread  : Nat
  age     : Nat
  maxAge  : Nat
  content : SlotContent
deriving DecidableEq, Repr

/-- The latest-value store. -/
structure Lvs where
  slots    : List Slot
  held     : Option Nat
  snap     : Option SnapFlight
  winValid : Bool
  window   : SnapWindow
  readPos  : Nat
  capFresh : BitVec 16
  capStale : BitVec 16
deriving DecidableEq, Repr

/-- The relation class the responder is told (Table 57). -/
inductive RelClass where
  | duplicate | untracked | tracked
deriving DecidableEq, Repr

/-- The queue mark the responder is told (Table 57). -/
inductive QueueMark where
  | reserved | queueFull
deriving DecidableEq, Repr

/-- The verdict inputs of a SEND to the part (Table 57). -/
structure VerdictInputs where
  source : Byte
  seq    : Seq
  cls    : RelClass
  stored : Option Verdict
  action : Option Action
  mark   : Option QueueMark
deriving DecidableEq, Repr

/-- Responder states (Table 56) with the response's characters; done counts those read back. -/
inductive RspState where
  | idle
  | waiting (chars : List Byte)
  | sending (chars : List Byte) (done : Nat)
deriving DecidableEq, Repr

/-- The responder. -/
structure Rsp where
  state  : RspState
  inputs : Option VerdictInputs
deriving DecidableEq, Repr

/-- The notification and wake controller. -/
structure Nwc where
  flags       : FlagSet
  irqEn       : FlagSet
  wakeEn      : FlagSet
  host        : HostState
  wakeCause   : FlagSet
  u           : Nat
  holdOff     : Option Nat
  rxThreshold : Nat
  rxHoldoff   : Nat
  mitCapture  : Nat
deriving DecidableEq, Repr

/-- A command in flight with its captured argument and parameter (R170, R171); abortCode is the code
of the command that a SOFT RESET aborted at its taking, 0x00 if none (R180). -/
structure InFlight where
  cmd       : Cmd
  arg       : Byte
  param     : BitVec 16
  abortCode : Byte
deriving DecidableEq, Repr

/-- The command unit; it is BUSY while a command is in flight (R171). -/
structure Cmu where
  arg          : Byte
  paramL       : Byte
  paramH       : Byte
  inFlight     : Option InFlight
  last         : Byte
  result       : CmdResult
  aborted      : Byte
  rejected     : Bool
  configLocked : Bool
deriving DecidableEq, Repr

/-- The fifteen counts, live or captured (Table 77). -/
structure Counts where
  framesGood     : Nat
  checkErrors    : Nat
  framingErrors  : Nat
  headerErrors   : Nat
  truncated      : Nat
  foreign        : Nat
  missedRising   : Nat
  duplicates     : Nat
  gapFrames      : Nat
  resyncs        : Nat
  qfullDrops     : Nat
  filtered       : Nat
  responsesSent  : Nat
  responseAborts : Nat
  untracked      : Nat
deriving DecidableEq, Repr

/-- The counter bank: live counters and snapshot registers (R183, R185). -/
structure Ctb where
  live : Counts
  snap : Counts
deriving DecidableEq, Repr

/-- What the completion of a loaded data byte does: a capture takes the figure taken at the load, a data
port moves its read position (R190). -/
inductive LoadEffect where
  | nothing
  | tickCount (count : Stamp)
  | fill (used free count : Nat)
  | sets (fresh stale : BitVec 16)
  | mitigation (u : Nat)
  | nextQueueByte
  | nextSlotByte
deriving DecidableEq, Repr

/-- A data byte of a read transaction as it was loaded (R190). -/
structure Load where
  byte   : Byte
  effect : LoadEffect
deriving DecidableEq, Repr

/-- Where the port stands in a transaction (R188 to R190, R193). -/
inductive PortPhase where
  /-- No transaction is served: CS_N is high, or fell before a reset ended. -/
  | closed
  /-- The command byte is shifted in, and MISO shifts out what STATUS_L held at the fall of CS_N. -/
  | command (status : Byte)
  /-- Data bytes are written. -/
  | write
  /-- Data bytes are read; this one is loaded. -/
  | read (load : Load)
deriving DecidableEq, Repr

/-- The SPI port: the level of CS_N (true is high), address pointer, the transaction under way, the byte
last shifted out whole on MISO, PAGE (R188 to R193), and the reports that arrive together with the data byte
under way and would be taken after SOFT RESET (R169, R187; notes/assumptions/24.md). -/
structure Spi where
  csN   : Bool
  ptr   : RegAddr
  phase : PortPhase
  out   : Byte
  page  : BitVec 2
  late  : LateReports
deriving DecidableEq, Repr

/-- The whole part: the level of LRX (true is high), whether a reset is in force, the blocks, and the
queue of waiting commands, the next one first. -/
structure State where
  lrx     : Bool
  inReset : Bool
  cfg     : LockedConfig
  tkg     : Tkg
  clc     : Clc
  lrv     : Lrv
  srt     : Srt
  acf     : Acf
  rxq     : Rxq
  lvs     : Lvs
  rsp     : Rsp
  nwc     : Nwc
  cmu     : Cmu
  ctb     : Ctb
  spi     : Spi
  pending : List Instr
deriving DecidableEq, Repr

/-- Why the machine could stop with a fault: the document gives no such case, so there is none.
Safe: nothing is stopped that the part would go on with. -/
inductive Fault where
deriving DecidableEq, Repr

/-- Why a command could be refused. -/
inductive Refusal where
  /-- Raised by an arm of exec whose command has no meaning yet; no arm is one. Safe. -/
  | notModelled (mnemonic : String)
deriving DecidableEq, Repr

/-! ### Replacing one block -/

def State.withLrx (s : State) (v : Bool) : State := { s with lrx := v }
def State.withInReset (s : State) (v : Bool) : State := { s with inReset := v }
def State.withCfg (s : State) (v : LockedConfig) : State := { s with cfg := v }
def State.withTkg (s : State) (v : Tkg) : State := { s with tkg := v }
def State.withClc (s : State) (v : Clc) : State := { s with clc := v }
def State.withLrv (s : State) (v : Lrv) : State := { s with lrv := v }
def State.withSrt (s : State) (v : Srt) : State := { s with srt := v }
def State.withAcf (s : State) (v : Acf) : State := { s with acf := v }
def State.withRxq (s : State) (v : Rxq) : State := { s with rxq := v }
def State.withLvs (s : State) (v : Lvs) : State := { s with lvs := v }
def State.withRsp (s : State) (v : Rsp) : State := { s with rsp := v }
def State.withNwc (s : State) (v : Nwc) : State := { s with nwc := v }
def State.withCmu (s : State) (v : Cmu) : State := { s with cmu := v }
def State.withCtb (s : State) (v : Ctb) : State := { s with ctb := v }
def State.withSpi (s : State) (v : Spi) : State := { s with spi := v }
def State.withPending (s : State) (v : List Instr) : State := { s with pending := v }

/-! ### The values after power-on and pin reset -/

/-- Empty buffer; the CRC stands at its initial value while it does not run (R39). -/
def FrameBuffer.empty : FrameBuffer := ⟨[], [], 0, 0xFFFF⟩

/-- The line receiver while it is not operating (R21, Table 26). -/
def Lrv.off : Lrv := ⟨.off, .framed, false, none, none, none, none, .empty⟩

/-- An acceptance entry after reset (R85). -/
def AcfEntry.reset : AcfEntry := ⟨false, 0, 0, none, .publish, .queue, none, false, 0⟩

/-- The staging entry after reset (Table 39). -/
def Staging.reset : Staging := ⟨false, 0, 0, 0, 0, .queue, 0, false, 0⟩

/-- The content of an EMPTY slot (Table 48). -/
def SlotContent.zero : SlotContent := ⟨0, 0, 0, 0, [], 0⟩

/-- An EMPTY slot that keeps a max_age (R131, R132). -/
def Slot.emptied (maxAge : Nat) : Slot := ⟨.empty, .zero, 0, 0, maxAge, none⟩

/-- The window's values while no snapshot has been taken (Table 51). -/
def SnapWindow.zero : SnapWindow := ⟨0, .empty, 0, 0, 0, .zero⟩

/-- Every count zero (R187). -/
def Counts.zero : Counts := ⟨0, 0, 0, 0, 0, 0, 0, 0, 0, 0, 0, 0, 0, 0, 0⟩

/-- Defaults of the locked registers (Table 82). -/
def LockedConfig.reset : LockedConfig := ⟨0, 1, .closed, false, 3, 1, 8⟩

/-- The part right after power-on or pin reset has ended (Tables 15, 26, 32, 41, 45, 55, 64, 71, 75
and 78). LRX and CS_N high, the port's pointer and output byte, and the idle CRC are the model's choice
(notes/assumptions/14.md). -/
def State.reset : State where
  lrx := true
  inReset := false
  cfg := .reset
  tkg := ⟨0, 0, 0⟩
  clc := ⟨.dormant, none, none⟩
  lrv := .off
  srt := ⟨[], none, none⟩
  acf := ⟨List.replicate Config.acceptanceEntries .reset, .reset, List.replicate Config.hashRegisters 0, none, none⟩
  rxq := ⟨[], .nothing, 0, 0, true, 0, 0, 0⟩
  lvs := ⟨List.replicate Config.slotCount (.emptied 0), none, none, false, .zero, 0, 0, 0⟩
  rsp := ⟨.idle, none⟩
  nwc := ⟨0, 0, 0, .awake, 0, 0, none, 1, 0, 0⟩
  cmu := ⟨0, 0, 0, none, 0, .ok, 0, false, false⟩
  ctb := ⟨.zero, .zero⟩
  spi := ⟨true, 0, .closed, 0, 0, ⟨0, []⟩⟩
  pending := []

end Sys2Proof.Machine
end

