-- ==== Sys2Proof/Machine/Flags.lean ====
section
/-! DEFINITION. Pending flags, the IRQ and WAKE levels, RX mitigation and the counters (chapters 8 and 9). -/

namespace Sys2Proof.Machine

/-! ### Flags and levels -/

/-- The bit of a flag in PENDING, the enables and WAKE_CAUSE: PENDING_L holds bits 0 to 7, PENDING_H
bits 8 and 9 (Table 86). -/
def Flag.bit : Flag → Nat
  | .rx => 0 | .slot => 1 | .stale => 2 | .watermark => 3 | .qfull => 4 | .gap => 5
  | .lineFault => 6 | .lineRecover => 7 | .cmdDone => 8 | .countSat => 9

/-- The set with this flag alone. -/
def Flag.mask (f : Flag) : FlagSet := BitVec.ofNat 10 (2 ^ f.bit)

/-- The flag is in the set. -/
def Flag.isIn (f : Flag) (v : FlagSet) : Bool := v.getLsbD f.bit

/-- A set of a pending flag: it becomes or stays pending, and while the host is ASLEEP its name joins
WAKE_CAUSE when its WAKE enable is set (R149, R164). -/
def Nwc.raise (f : Flag) (n : Nwc) : Nwc :=
  { n with
    flags := n.flags ||| f.mask
    wakeCause :=
      if n.host = .asleep ∧ f.isIn n.wakeEn then n.wakeCause ||| f.mask else n.wakeCause }

/-- IRQ is asserted exactly while the host is AWAKE and a pending flag has its IRQ enable (R153). -/
def Nwc.irq (n : Nwc) : Bool := decide (n.host = .awake) && (n.flags &&& n.irqEn != 0)

/-- WAKE is asserted exactly while the host is ASLEEP and WAKE_CAUSE is not empty (R154). -/
def Nwc.wake (n : Nwc) : Bool := decide (n.host = .asleep) && n.wakeCause != 0

/-- The level of the pin IRQ_N, active low (R153). -/
def State.irqN (s : State) : Bool := !s.nwc.irq

/-- The level of the pin WAKE (R154). -/
def State.wakePin (s : State) : Bool := s.nwc.wake

/-- F becomes pending (00_scope.md section 6.5). -/
def raise (f : Flag) (s : State) : State := s.withNwc (s.nwc.raise f)

/-! ### RX mitigation -/

/-- The hold-off countdown as it is loaded: with RX_HOLDOFF, and not at all when that is 0 (R158). -/
def Nwc.loadedHoldOff (n : Nwc) : Option Nat := if n.rxHoldoff = 0 then none else some n.rxHoldoff

/-- What a record commit does to the mitigation (R157). -/
def Nwc.recordCommit (urgent : Bool) (n : Nwc) : Nwc :=
  if Flag.rx.isIn n.flags then n
  else
    let n := { n with u := n.u + 1 }
    if urgent ∨ n.rxThreshold ≤ n.u then { n with holdOff := none }.raise .rx
    else if n.u = 1 ∧ n.rxHoldoff ≠ 0 then { n with holdOff := n.loadedHoldOff }
    else n

/-- The re-count at a clear of a pending RX, over the records still queued (R159). -/
def Nwc.recount (records : Nat) (n : Nwc) : Nwc :=
  let n := { n with u := records, holdOff := none }
  if n.rxThreshold ≤ n.u then n.raise .rx
  else if n.u = 0 then n
  else { n with holdOff := n.loadedHoldOff }

/-- A write of one to the flags of a set: they are cleared, and a clear of a pending RX re-counts at
the same event (R150, R159). -/
def Nwc.clear (cleared : FlagSet) (records : Nat) (n : Nwc) : Nwc :=
  let n' := { n with flags := n.flags &&& ~~~cleared }
  if Flag.rx.isIn n.flags ∧ Flag.rx.isIn cleared then n'.recount records else n'

/-- FLUSH QUEUE at the controller (R160). -/
def Nwc.flushed (n : Nwc) : Nwc := { n with u := 0, holdOff := none }

/-- A tick at the hold-off countdown; at 0 it expires (R158). -/
def Nwc.tick (n : Nwc) : Nwc :=
  match n.holdOff with
  | none => n
  | some k => if k ≤ 1 then { n with holdOff := none }.raise .rx else { n with holdOff := some (k - 1) }

/-- HOST SLEEP while AWAKE: the host sleeps, WAKE_CAUSE is emptied and then takes every pending flag
with its WAKE enable (R163). -/
def Nwc.sleep (n : Nwc) : Nwc := { n with host := .asleep, wakeCause := n.flags &&& n.wakeEn }

/-- HOST AWAKE while ASLEEP; WAKE_CAUSE is kept (R165). -/
def Nwc.awaken (n : Nwc) : Nwc := { n with host := .awake }

/-- The flags whose set can be taken after the taking of SOFT RESET that it arrives with (R169): not STALE,
since a tick before the taking has its STALE cleared and one after it finds every slot EMPTY (R132), not
CMD_DONE, since a completion that comes second does not occur (R181), and not COUNT_SAT, since an increment
before the taking is lost with its COUNT_SAT and one after it counts from 0 (R187). -/
def lateFlags : FlagSet := ~~~(Flag.stale.mask ||| Flag.cmdDone.mask ||| Flag.countSat.mask)

/-- SOFT RESET at the controller: the enables, threshold, hold-off and capture are kept, and of the flags
only those stay pending whose set is taken after the taking (R169; notes/assumptions/24.md). -/
def Nwc.softReset (late : FlagSet) (n : Nwc) : Nwc :=
  { n with
    flags := n.flags &&& late &&& lateFlags
    wakeCause := 0
    host := .awake
    u := 0
    holdOff := none }

/-! ### Counters -/

/-- The count of one counter. -/
def Counts.get (c : Counts) : Counter → Nat
  | .framesGood => c.framesGood | .checkErrors => c.checkErrors
  | .framingErrors => c.framingErrors | .headerErrors => c.headerErrors
  | .truncated => c.truncated | .foreign => c.foreign | .missedRising => c.missedRising
  | .duplicates => c.duplicates | .gapFrames => c.gapFrames | .resyncs => c.resyncs
  | .qfullDrops => c.qfullDrops | .filtered => c.filtered | .responsesSent => c.responsesSent
  | .responseAborts => c.responseAborts | .untracked => c.untracked

/-- The counts with one counter replaced. -/
def Counts.set (c : Counts) (k : Counter) (v : Nat) : Counts :=
  match k with
  | .framesGood => { c with framesGood := v }
  | .checkErrors => { c with checkErrors := v }
  | .framingErrors => { c with framingErrors := v }
  | .headerErrors => { c with headerErrors := v }
  | .truncated => { c with truncated := v }
  | .foreign => { c with foreign := v }
  | .missedRising => { c with missedRising := v }
  | .duplicates => { c with duplicates := v }
  | .gapFrames => { c with gapFrames := v }
  | .resyncs => { c with resyncs := v }
  | .qfullDrops => { c with qfullDrops := v }
  | .filtered => { c with filtered := v }
  | .responsesSent => { c with responsesSent := v }
  | .responseAborts => { c with responseAborts := v }
  | .untracked => { c with untracked := v }

/-- A sum held at a top (R47, R117, R183). -/
def satAdd (top v n : Nat) : Nat := min top (v + n)

/-- An increment of a live counter: the sum is held at 65535, and the increment that brings the
counter from below 65535 to it makes COUNT_SAT pending (R183). -/
def countBy (k : Counter) (n : Nat) (s : State) : State :=
  let v := s.ctb.live.get k
  let v' := satAdd Config.counterTop v n
  let s' := s.withCtb { s.ctb with live := s.ctb.live.set k v' }
  if v < Config.counterTop ∧ v' = Config.counterTop then raise .countSat s' else s'

/-- X is counted once (00_scope.md section 6.5). -/
def count (k : Counter) (s : State) : State := countBy k 1 s

/-- The counts with every counter given by a function. -/
def Counts.ofFun (f : Counter → Nat) : Counts :=
  ⟨f .framesGood, f .checkErrors, f .framingErrors, f .headerErrors, f .truncated, f .foreign,
   f .missedRising, f .duplicates, f .gapFrames, f .resyncs, f .qfullDrops, f .filtered,
   f .responsesSent, f .responseAborts, f .untracked⟩

/-- SOFT RESET at the counter bank: every live counter is 0 but for the increments, among those it has
counted, that are taken after the taking (R187; notes/assumptions/24.md). -/
def Ctb.softReset (late : List Counter) (c : Ctb) : Ctb :=
  { c with live := .ofFun fun k => min (late.count k) (c.live.get k) }

/-- SNAPSHOT COUNTERS: every snapshot register takes its live count, and every live count becomes 0
(R185). -/
def Ctb.snapshot (c : Ctb) : Ctb := ⟨.zero, c.live⟩

end Sys2Proof.Machine
end

