-- ==== Sys2Proof/Machine/Operands.lean ====
section
/-! DEFINITION. The layouts: characters, the frame header, the CRC, the response frame, record sizes,
the codes of Tables 86 and 87, and what a read of each register returns (Tables 82 to 85). -/

namespace Sys2Proof.Machine

/-! ### Characters and the CRC -/

/-- The preamble character (Table 18). -/
def preambleChar : Byte := 0x55

/-- The delimiter character (Table 18). -/
def delimiterChar : Byte := 0xC5

/-- The ten samples of a character, bit k the k-th: start bit low, eight data bits least significant
first, stop bit high (R17). -/
def charSamples (c : Byte) : BitVec 10 := (1 : BitVec 1) ++ c ++ (0 : BitVec 1)

/-- One bit step of the CRC with polynomial x^16+x^12+x^5+1 (R19). -/
def crcShift (crc : BitVec 16) : BitVec 16 :=
  if crc.msb then (crc <<< 1) ^^^ 0x1021 else crc <<< 1

/-- The CRC after one more byte, taken most significant bit first (R19). -/
def crcByte (crc : BitVec 16) (b : Byte) : BitVec 16 :=
  let c := crc ^^^ (b.setWidth 16 <<< 8)
  crcShift (crcShift (crcShift (crcShift (crcShift (crcShift (crcShift (crcShift c)))))))

/-- The CRC's initial value (R19). -/
def crcInit : BitVec 16 := 0xFFFF

/-- The CRC over bytes in the order they arrive (R19). -/
def crcOf (bytes : List Byte) : BitVec 16 := bytes.foldl crcByte crcInit

/-- Fast-oscillator periods of one bit time (Table 16). -/
def fastPeriodsPerBit (lineRate : BitVec 2) : Nat := 256 / 2 ^ lineRate.toNat

/-- Fast periods of the settle count (Table 9). -/
def settlePeriods (settleSel : BitVec 2) : Nat := 256 * 2 ^ settleSel.toNat

/-- LCLK periods of one tick (R3, Table 11). -/
def tickPeriod (tickShift : BitVec 3) : Nat := 128 * 2 ^ tickShift.toNat

/-! ### The frame header (R196, Table 81) -/

def Kind.ofCode (c : BitVec 2) : Kind :=
  if c = 0 then .publish else if c = 1 then .send else if c = 2 then .response else .fourth

def Kind.code : Kind → BitVec 2
  | .publish => 0 | .send => 1 | .response => 2 | .fourth => 3

/-- The header fields of the six header bytes (Table 81). -/
def headerOf (bytes : List Byte) : Header :=
  let b (i : Nat) : Byte := bytes.getD i 0
  { dest := b 0
    source := b 1
    kind := Kind.ofCode ((b 2).extractLsb' 6 2)
    seq := (b 2).extractLsb' 0 6
    format := (b 3).extractLsb' 4 4
    topic := (b 3).extractLsb' 0 4 ++ b 4
    length := (b 5).toNat }

/-- A node's address (Table 19). -/
def isNode (a : Byte) : Bool := decide (1 ≤ a.toNat ∧ a.toNat ≤ Config.maxNode)

/-- None of the conditions of Table 20 holds (R20). -/
def Header.valid (h : Header) : Bool :=
  isNode h.source && decide (h.dest.toNat ≤ Config.maxNode) && decide (h.length ≤ Config.maxPayload) &&
  (match h.kind with
   | .publish => h.dest == 0
   | .send | .response => h.dest != 0
   | .fourth => false)

/-- A SEND whose destination is OWN_ADDRESS (Table 4). -/
def Header.sendToPart (h : Header) (own : Byte) : Bool := decide (h.kind = .send) && h.dest == own

/-- A frame for the part: a PUBLISH, or a SEND to OWN_ADDRESS (Table 23). -/
def Header.forPart (h : Header) (own : Byte) : Bool := decide (h.kind = .publish) || h.sendToPart own

/-- A frame handed to the source tracker: PUBLISH and SEND (Table 23). -/
def Header.tracked (h : Header) : Bool := decide (h.kind = .publish ∨ h.kind = .send)

/-- Verdict codes: the topic of a RESPONSE (Table 19). -/
def Verdict.code : Verdict → Byte
  | .accept => 1 | .refuseFull => 2 | .refuseFilter => 3

/-- The six header bytes of the response to a SEND (Table 59, Table 81). -/
def responseHeader (own source : Byte) (seq : Seq) (v : Verdict) : List Byte :=
  [source, own, Kind.response.code ++ seq, 0, v.code, 0]

/-- The eleven characters of a response: two preamble characters, delimiter, header, check high byte
first (R140). -/
def responseFrame (own source : Byte) (seq : Seq) (v : Verdict) : List Byte :=
  let h := responseHeader own source seq v
  let crc := crcOf h
  [preambleChar, preambleChar, delimiterChar] ++ h ++ [crc.extractLsb' 8 8, crc.extractLsb' 0 8]

/-! ### Record sizes and the fill figures (R87, R88) -/

/-- The bytes a record occupies (R88). -/
def recordSize (length : Nat) : Nat := 12 + 4 * ((length + 3) / 4)

def Claim.size : Claim → Nat
  | .reserved h _ => recordSize h.length
  | .nothing | .queueFull => 0

/-- The bytes of the committed records. -/
def recordBytes (rs : List Record) : Nat := (rs.map (recordSize ·.length)).sum

/-- Used bytes: the committed records and the reservation (R87). -/
def Rxq.used (q : Rxq) : Nat := recordBytes q.records + q.claim.size

/-- Free bytes (R87). -/
def Rxq.free (q : Rxq) : Nat := Config.recordMemory - q.used

/-- The used bytes are below the level; the setting 0 puts the level above every figure (R106). -/
def belowLevel (watermark used : Nat) : Bool := decide (watermark = 0 ∨ used < 64 * watermark)

/-! ### Codes of packed fields (Table 86) -/

def LineState.code : LineState → BitVec 2
  | .dormant => 0 | .listen => 1 | .rising => 2 | .active => 3

def RxState.code : RxState → BitVec 3
  | .off => 0 | .hunt => 1 | .header => 2 | .body => 3 | .skip => 4 | .stuck => 5

def RspState.code : RspState → BitVec 2
  | .idle => 0 | .waiting _ => 1 | .sending _ _ => 2

def RspState.isIdle : RspState → Bool
  | .idle => true | .waiting _ => false | .sending _ _ => false

def CmdResult.code : CmdResult → Byte
  | .ok => 0 | .state => 1 | .arg => 2 | .empty => 3 | .notFound => 4 | .full => 5 | .aborted => 6

def Action.code : Action → BitVec 2
  | .queue => 0 | .latest => 1 | .both => 2 | .discard => 3

def Action.ofCode (c : BitVec 2) : Action :=
  if c = 0 then .queue else if c = 1 then .latest else if c = 2 then .both else .discard

/-- The action makes a record. -/
def Action.queues : Action → Bool
  | .queue | .both => true | .latest | .discard => false

/-- The action updates a slot. -/
def Action.updates : Action → Bool
  | .latest | .both => true | .queue | .discard => false

def KindSel.code : KindSel → BitVec 2
  | .publish => 0 | .send => 1 | .either => 2

def SlotState.code : SlotState → BitVec 2
  | .empty => 0 | .fresh => 1 | .seen => 2 | .stale => 3

def Match.code : Match → Byte
  | .entry n => BitVec.ofNat 8 n | .hash => 32 | .openMode => 33 | .nothing => 0

def RelFlag.code : RelFlag → BitVec 3
  | .nothing => 0 | .first => 1 | .gap _ => 2 | .resync => 3 | .untracked => 4

def RelFlag.gapSize : RelFlag → Nat
  | .gap n => n
  | .nothing | .first | .resync | .untracked => 0

/-- The relation flag of a record: none for NEXT and RETRY (R89); a DUPLICATE makes no record. -/
def Relation.recordFlag : Relation → RelFlag
  | .first => .first | .gap n => .gap n | .resync => .resync | .untracked => .untracked
  | .next | .retry | .duplicate => .nothing

/-- The relation class the responder is told (Table 57). -/
def Relation.relClass : Relation → RelClass
  | .duplicate => .duplicate | .untracked => .untracked
  | .first | .next | .gap _ | .resync | .retry => .tracked

def FilterMode.code : FilterMode → Byte
  | .closed => 0 | .openMode => 1

/-- Command codes (Table 87). -/
def Cmd.code : Cmd → Byte
  | .nop => 0x01 | .startLine => 0x10 | .stopLine => 0x11 | .releaseHead => 0x20
  | .flushQueue => 0x21 | .snapshotSlot => 0x30 | .setSlotWatch => 0x31 | .commitEntry => 0x40
  | .clearEntry => 0x41 | .readEntry => 0x42 | .pinSource => 0x50 | .unpinSource => 0x51
  | .forgetSource => 0x52 | .forgetUnpinned => 0x53 | .readSource => 0x54
  | .snapshotCounters => 0x60 | .hostSleep => 0x70 | .hostAwake => 0x71 | .softReset => 0x96

/-- The nineteen commands. -/
def Cmd.all : List Cmd :=
  [.nop, .startLine, .stopLine, .releaseHead, .flushQueue, .snapshotSlot, .setSlotWatch,
   .commitEntry, .clearEntry, .readEntry, .pinSource, .unpinSource, .forgetSource,
   .forgetUnpinned, .readSource, .snapshotCounters, .hostSleep, .hostAwake, .softReset]

/-- The command a byte written to CMD names, if any (R198). -/
def Cmd.ofCode (code : Byte) : Option Cmd := Cmd.all.find? (·.code == code)

/-- The five source commands (R52). -/
def Cmd.isSource : Cmd → Bool
  | .pinSource | .unpinSource | .forgetSource | .forgetUnpinned | .readSource => true
  | .nop | .startLine | .stopLine | .releaseHead | .flushQueue | .snapshotSlot | .setSlotWatch
  | .commitEntry | .clearEntry | .readEntry | .snapshotCounters | .hostSleep | .hostAwake
  | .softReset => false

/-- The three entry commands (R77). -/
def Cmd.isEntry : Cmd → Bool
  | .commitEntry | .clearEntry | .readEntry => true
  | .nop | .startLine | .stopLine | .releaseHead | .flushQueue | .snapshotSlot | .setSlotWatch
  | .pinSource | .unpinSource | .forgetSource | .forgetUnpinned | .readSource
  | .snapshotCounters | .hostSleep | .hostAwake | .softReset => false

/-! ### Bytes of a figure -/

/-- Bits 7 to 0 of a count. -/
def lowByte (n : Nat) : Byte := BitVec.ofNat 8 n

/-- Bits 15 to 8 of a count. -/
def highByte (n : Nat) : Byte := BitVec.ofNat 8 (n / 256)

/-- A Boolean as the bit k of a register byte. -/
def bitAt (k : Nat) (b : Bool) : Byte := if b then BitVec.ofNat 8 (2 ^ k) else 0

/-- The low register of a flag set: its bits 7 to 0 (Table 86). -/
def flagsLow (v : FlagSet) : Byte := v.extractLsb' 0 8

/-- The high register of a flag set: its bits 9 and 8 in bits 1 and 0 (Table 86). -/
def flagsHigh (v : FlagSet) : Byte := (v.extractLsb' 8 2).setWidth 8

/-- The flags that a byte of the low (high false) or high register names; bits without a flag are
ignored (R150, R152). -/
def flagsOf (high : Bool) (value : Byte) : FlagSet :=
  if high then (value.extractLsb' 0 2) ++ (0 : Byte) else value.setWidth 10

/-- A flag set with the half a register holds replaced (R152). -/
def flagsReplace (high : Bool) (value : Byte) (v : FlagSet) : FlagSet :=
  if high then (value.extractLsb' 0 2) ++ (v.extractLsb' 0 8) else (v.extractLsb' 8 2) ++ value

/-! ### The views of chapter 5 and 6 -/

/-- The head: the oldest committed record (R98). -/
def Rxq.head (q : Rxq) : Option Record := q.records.head?

/-- The byte a read of QDATA returns (R100). -/
def Rxq.dataByte (q : Rxq) : Byte :=
  match q.head with
  | none => 0
  | some r => if q.readPos < r.length then r.payload.getD q.readPos 0 else 0

/-- The byte a read of SDATA returns (R128). -/
def Lvs.dataByte (l : Lvs) : Byte :=
  if l.winValid ∧ l.readPos < l.window.content.length then l.window.content.payload.getD l.readPos 0
  else 0

/-- A read position after a read: it stops at 48 (R100, R128). -/
def advancePos (p : Nat) : Nat := if p < Config.maxPayload then p + 1 else p

/-- The slots in a given state, slot k at bit k (R129). -/
def slotsIn (st : SlotState) (slots : List Slot) : BitVec 16 :=
  slots.foldr (fun sl acc => (acc <<< 1) ||| (if sl.state = st then 1 else 0)) 0

/-! ### What a read returns (Tables 82 to 86) -/

/-- STATUS_L (Table 86). The receiver-state field reads OFF whenever the line is not ACTIVE (R197). -/
def State.statusL (s : State) : Byte :=
  let rx : RxState := if s.clc.line = .active then s.lrv.rx else .off
  (if s.cmu.inFlight.isSome then (1 : BitVec 1) else 0) ++ s.rsp.state.code ++ rx.code ++ s.clc.line.code

/-- STATUS_H (Table 86). -/
def State.statusH (s : State) : Byte :=
  bitAt 0 s.rxq.arm ||| bitAt 1 (decide (s.nwc.host = .asleep))

/-- CMD_FLAGS (Table 86). -/
def Cmu.flags (c : Cmu) : Byte := bitAt 0 c.rejected ||| bitAt 1 c.configLocked

/-- HEAD_FLAGS (Table 86). -/
def Record.flags (r : Record) : Byte :=
  bitAt 0 (decide (r.kind = .send)) ||| (r.relation.code.setWidth 8 <<< 1) ||| bitAt 4 r.urgent |||
    bitAt 5 r.slot.isSome

/-- A field of the head; every HEAD register reads 0x00 with no head (R98). -/
def Rxq.headByte (q : Rxq) (f : Record → Byte) : Byte :=
  match q.head with
  | none => 0
  | some r => f r

/-- STG_CTRL (Table 86). -/
def Staging.ctrl (g : Staging) : Byte :=
  bitAt 0 g.valid ||| (g.kinds.setWidth 8 <<< 1) ||| (g.action.code.setWidth 8 <<< 3) ||| bitAt 5 g.urgent

/-- A field of the source window, 0 while it is not valid (Table 30). -/
def Srt.windowByte (t : Srt) (f : SourceWindow → Byte) : Byte :=
  match t.window with
  | none => 0
  | some w => f w

/-- SRCW_FLAGS (Table 86). -/
def SourceWindow.flags (w : SourceWindow) : Byte :=
  bitAt 0 true ||| bitAt 1 w.entry.pinned ||| bitAt 2 w.entry.lastSeq.isSome |||
    bitAt 3 w.entry.lastVerdict.isSome |||
    ((w.entry.lastVerdict.elim (0 : Byte) Verdict.code) <<< 4)

/-- A field of the snapshot window, 0x00 while window valid reads 0 (R123). -/
def Lvs.windowByte (l : Lvs) (f : SnapWindow → Byte) : Byte := if l.winValid then f l.window else 0

/-- SNAP_STATUS (Table 86). -/
def SnapWindow.status (w : SnapWindow) : Byte :=
  bitAt 0 true ||| (w.state.code.setWidth 8 <<< 1) ||| (lowByte w.slot <<< 4)

/-- The common area (Table 82). An address that holds no register reads 0x00 (R192). -/
def State.readCommon (s : State) (addr : Nat) : Byte :=
  match addr with
  | 0x00 => s.statusL
  | 0x01 => s.statusH
  | 0x02 => s.spi.page.setWidth 8
  | 0x03 => s.cmu.arg
  | 0x04 => s.cmu.paramL
  | 0x05 => s.cmu.paramH
  | 0x07 => s.cmu.last
  | 0x08 => s.cmu.result.code
  | 0x09 => s.cmu.aborted
  | 0x0A => s.cmu.flags
  | 0x0B => flagsLow s.nwc.flags
  | 0x0C => flagsHigh s.nwc.flags
  | 0x0D => flagsLow s.nwc.irqEn
  | 0x0E => flagsHigh s.nwc.irqEn
  | 0x0F => flagsLow s.nwc.wakeEn
  | 0x10 => flagsHigh s.nwc.wakeEn
  | 0x11 => flagsLow s.nwc.wakeCause
  | 0x12 => flagsHigh s.nwc.wakeCause
  | 0x13 => lowByte s.nwc.rxThreshold
  | 0x14 => lowByte s.nwc.rxHoldoff
  | 0x15 => lowByte s.nwc.u
  | 0x16 => highByte s.nwc.mitCapture
  | 0x17 => s.cfg.ownAddress
  | 0x18 => s.cfg.lineRate.setWidth 8
  | 0x19 => s.cfg.filterMode.code
  | 0x1A => bitAt 0 s.cfg.hashOn
  | 0x1B => s.cfg.tickShift.setWidth 8
  | 0x1C => s.cfg.settleSel.setWidth 8
  | 0x1D => s.cfg.idleHold
  | 0x1E => s.tkg.tickCount.extractLsb' 0 8
  | 0x1F => s.tkg.capture.extractLsb' 8 8
  | 0x20 => bitAt 0 s.rxq.head.isSome
  | 0x21 => s.rxq.headByte (·.source)
  | 0x22 => s.rxq.headByte (·.topic.extractLsb' 0 8)
  | 0x23 => s.rxq.headByte fun r => (r.topic.extractLsb' 8 4).setWidth 8
  | 0x24 => s.rxq.headByte (·.seq.setWidth 8)
  | 0x25 => s.rxq.headByte fun r => lowByte r.length
  | 0x26 => s.rxq.headByte Record.flags
  | 0x27 => s.rxq.headByte fun r => lowByte r.relation.gapSize
  | 0x28 => s.rxq.headByte fun r => lowByte (r.slot.getD 0)
  | 0x29 => s.rxq.headByte (·.matched.code)
  | 0x2A => s.rxq.headByte (·.stamp.extractLsb' 0 8)
  | 0x2B => s.rxq.headByte (·.stamp.extractLsb' 8 8)
  | 0x2C => s.rxq.dataByte
  | 0x2D => lowByte s.rxq.used
  | 0x2E => highByte s.rxq.capUsed
  | 0x2F => lowByte s.rxq.capFree
  | 0x30 => highByte s.rxq.capFree
  | 0x31 => lowByte s.rxq.capCount
  | 0x32 => highByte s.rxq.capCount
  | 0x33 => lowByte s.rxq.watermark
  | 0x34 => (slotsIn .fresh s.lvs.slots).extractLsb' 0 8
  | 0x35 => s.lvs.capFresh.extractLsb' 8 8
  | 0x36 => s.lvs.capStale.extractLsb' 0 8
  | 0x37 => s.lvs.capStale.extractLsb' 8 8
  | 0x38 => lowByte s.srt.table.length
  | _ => 0

/-- Page 0, the hash set (Table 84). -/
def State.readPage0 (s : State) (addr : Nat) : Byte := s.acf.hash.getD (addr - 0x40) 0

/-- Page 1: staging entry, source window, snapshot window (Table 83). -/
def State.readPage1 (s : State) (addr : Nat) : Byte :=
  match addr with
  | 0x40 => s.acf.staging.ctrl
  | 0x41 => s.acf.staging.topicLow.extractLsb' 0 8
  | 0x42 => (s.acf.staging.topicLow.extractLsb' 8 4).setWidth 8
  | 0x43 => s.acf.staging.topicHigh.extractLsb' 0 8
  | 0x44 => (s.acf.staging.topicHigh.extractLsb' 8 4).setWidth 8
  | 0x45 => s.acf.staging.source
  | 0x46 => s.acf.staging.slot
  | 0x47 => lowByte s.acf.staging.hitView
  | 0x48 => highByte s.acf.staging.hitView
  | 0x49 => s.srt.windowByte SourceWindow.flags
  | 0x4A => s.srt.windowByte fun w => lowByte w.pos
  | 0x4B => s.srt.windowByte (·.entry.addr)
  | 0x4C => s.srt.windowByte fun w => w.entry.lastSeq.elim (0 : Byte) (·.setWidth 8)
  | 0x4D => s.srt.windowByte fun w => lowByte w.entry.gapTotal
  | 0x4E => s.srt.windowByte fun w => lowByte w.entry.dupTotal
  | 0x4F => s.srt.windowByte (·.entry.heard.extractLsb' 0 8)
  | 0x50 => s.srt.windowByte (·.entry.heard.extractLsb' 8 8)
  | 0x51 => s.lvs.windowByte SnapWindow.status
  | 0x52 => s.lvs.windowByte fun w => lowByte w.unread
  | 0x53 => s.lvs.windowByte fun w => lowByte w.age
  | 0x54 => s.lvs.windowByte fun w => highByte w.age
  | 0x55 => s.lvs.windowByte fun w => lowByte w.maxAge
  | 0x56 => s.lvs.windowByte fun w => highByte w.maxAge
  | 0x57 => s.lvs.windowByte (·.content.source)
  | 0x58 => s.lvs.windowByte (·.content.topic.extractLsb' 0 8)
  | 0x59 => s.lvs.windowByte fun w => (w.content.topic.extractLsb' 8 4).setWidth 8
  | 0x5A => s.lvs.windowByte (·.content.seq.setWidth 8)
  | 0x5B => s.lvs.windowByte fun w => lowByte w.content.length
  | 0x5C => s.lvs.windowByte (·.content.stamp.extractLsb' 0 8)
  | 0x5D => s.lvs.windowByte (·.content.stamp.extractLsb' 8 8)
  | 0x5E => s.lvs.dataByte
  | _ => 0

/-- The counters in the order of page 2 (Table 85). -/
def Counter.all : List Counter :=
  [.framesGood, .checkErrors, .framingErrors, .headerErrors, .truncated, .foreign, .missedRising,
   .duplicates, .gapFrames, .resyncs, .qfullDrops, .filtered, .responsesSent, .responseAborts,
   .untracked]

/-- Page 2, the counter snapshot registers: low byte at the even address (Table 85). -/
def State.readPage2 (s : State) (addr : Nat) : Byte :=
  match Counter.all[(addr - 0x40) / 2]? with
  | none => 0
  | some k => if addr % 2 = 0 then lowByte (s.ctb.snap.get k) else highByte (s.ctb.snap.get k)

/-- The byte a read of this address returns, on the page selected (R192). It changes nothing; the
effects of the six registers with an effect are in Machine/Registers.lean. -/
def State.readReg (s : State) (addr : RegAddr) : Byte :=
  let a := addr.toNat
  if a < 0x40 then s.readCommon a
  else if s.spi.page = 0 then s.readPage0 a
  else if s.spi.page = 1 then s.readPage1 a
  else if s.spi.page = 2 then s.readPage2 a
  else 0

end Sys2Proof.Machine
end

