-- ==== Sys2Proof/Machine/Filter.lean ====
section
/-! DEFINITION. The acceptance filter: search, fallback, classification, hit counts, and the three
entry commands (chapter 4). -/

namespace Sys2Proof.Machine

/-! ### Search and fallback (R61, R63, R66, R67) -/

/-- The entry's kinds take in the frame's kind (R61). -/
def KindSel.takes (k : KindSel) (kind : Kind) : Bool :=
  match k with
  | .publish => decide (kind = .publish)
  | .send => decide (kind = .send)
  | .either => decide (kind = .publish ∨ kind = .send)

/-- An entry matches a frame (R61). -/
def AcfEntry.matchesFrame (e : AcfEntry) (h : Header) : Bool :=
  e.valid && decide (e.topicLow ≤ h.topic ∧ h.topic ≤ e.topicHigh) &&
    (match e.source with
     | none => true
     | some a => a == h.source) &&
    e.kinds.takes h.kind

/-- The first entry that matches, with its index, counting from the given one (R66). -/
def searchFrom (h : Header) : Nat → List AcfEntry → Option (Nat × AcfEntry)
  | _, [] => none
  | n, e :: rest => if e.matchesFrame h then some (n, e) else searchFrom h (n + 1) rest

/-- The hash index of a topic (R63). -/
def hashIndex (t : Topic) : Nat := (t.toNat % 512) ^^^ (t.toNat / 512)

/-- A member of the hash set is present: bit j of HASH_k holds member 8k + j (R64, Table 84). -/
def hashMember (hash : List Byte) (i : Nat) : Bool := (hash.getD (i / 8) 0).getLsbD (i % 8)

/-- Action and match when no entry matches (Table 35). -/
def fallback (cfg : LockedConfig) (hash : List Byte) (topic : Topic) : Action × Match :=
  match cfg.filterMode with
  | .openMode => (.queue, .openMode)
  | .closed =>
    if cfg.hashOn ∧ hashMember hash (hashIndex topic) then (.queue, .hash) else (.discard, .nothing)

/-- The result of a classification, fixed at its completion (R66 to R69). -/
def classify (cfg : LockedConfig) (hash : List Byte) (j : ClassJob) : Classified :=
  match j.found with
  | some (n, e) => ⟨e.action, if e.action.updates then e.slot else none, e.urgent, .entry n, j.relation⟩
  | none =>
    let (action, matched) := fallback cfg hash j.hdr.topic
    ⟨action, none, false, matched, j.relation⟩

/-! ### At the end of a frame (R72) -/

/-- The hit count of the entry at an index is incremented, up to 65535 (R72). -/
def addHit (n : Nat) (table : List AcfEntry) : List AcfEntry :=
  match table[n]? with
  | none => table
  | some e => table.set n { e with hits := satAdd Config.counterTop e.hits 1 }

/-- The filter's part at frame commit but for FILTERED (R72). -/
def Acf.commit (a : Acf) : Acf :=
  match a.held with
  | none => a
  | some ⟨r, rewritten⟩ =>
    let table := match r.matched, rewritten with
      | .entry n, false => addHit n a.table
      | _, _ => a.table
    { a with table := table, held := none }

/-! ### Entry commands (R79 to R82) -/

/-- The staging checks of COMMIT ENTRY (R80). -/
def Staging.legal (g : Staging) : Bool :=
  decide (g.topicLow ≤ g.topicHigh) && decide (g.source.toNat ≤ Config.maxNode) && g.kinds != 3 &&
    (!g.action.updates || decide (g.slot.toNat < Config.slotCount))

/-- The kinds a legal staging code names. -/
def KindSel.ofCode (c : BitVec 2) : KindSel :=
  if c = 0 then .publish else if c = 1 then .send else .either

/-- The entry that COMMIT ENTRY writes (R79). -/
def Staging.entry (g : Staging) : AcfEntry :=
  { valid := g.valid
    topicLow := g.topicLow
    topicHigh := g.topicHigh
    source := if g.source = 0 then none else some g.source
    kinds := KindSel.ofCode g.kinds
    action := g.action
    slot := if g.action.updates then some g.slot.toNat else none
    urgent := g.urgent
    hits := 0 }

/-- The staging entry after READ ENTRY (R82). -/
def AcfEntry.staged (e : AcfEntry) : Staging :=
  { valid := e.valid
    topicLow := e.topicLow
    topicHigh := e.topicHigh
    source := e.source.getD 0
    kinds := e.kinds.code
    action := e.action
    slot := BitVec.ofNat 8 (e.slot.getD 0)
    urgent := e.urgent
    hitView := e.hits }

/-- The result held is noted as that of an entry written or cleared since (R72). -/
def Acf.noteRewritten (n : Nat) (a : Acf) : Acf :=
  match a.held with
  | none => a
  | some r => if r.result.matched = .entry n then { a with held := some { r with rewritten := true } } else a

/-- COMMIT ENTRY as it takes effect (R79, R80). -/
def commitEffect (n : Nat) (a : Acf) : Acf × CmdResult :=
  if a.staging.legal then ({ a with table := a.table.set n a.staging.entry }.noteRewritten n, .ok)
  else (a, .arg)

/-- CLEAR ENTRY as it takes effect (R81). -/
def clearEffect (n : Nat) (a : Acf) : Acf × CmdResult :=
  match a.table[n]? with
  | none => (a, .ok)
  | some e => ({ a with table := a.table.set n { e with valid := false, hits := 0 } }.noteRewritten n, .ok)

/-- READ ENTRY as it takes effect (R82). -/
def readEffect (n : Nat) (a : Acf) : Acf × CmdResult :=
  match a.table[n]? with
  | none => (a, .ok)
  | some e => ({ a with staging := e.staged }, .ok)

/-- An entry command as it takes effect, by its captured argument (R77, R170). Only the three entry
commands are handed to the filter. -/
def entryEffect (c : Cmd) (arg : Byte) (a : Acf) : Acf × CmdResult :=
  match c with
  | .commitEntry => commitEffect arg.toNat a
  | .clearEntry => clearEffect arg.toNat a
  | .readEntry => readEffect arg.toNat a
  | .nop | .startLine | .stopLine | .releaseHead | .flushQueue | .snapshotSlot | .setSlotWatch
  | .pinSource | .unpinSource | .forgetSource | .forgetUnpinned | .readSource
  | .snapshotCounters | .hostSleep | .hostAwake | .softReset => (a, .ok)

/-- SOFT RESET at the filter: hit counts go to 0, entries, staging and hash set are kept (R86). -/
def Acf.softReset (a : Acf) : Acf :=
  { a with table := a.table.map fun e => { e with hits := 0 }, job := none, held := none }

end Sys2Proof.Machine
end

