-- ==== Sys2Proof/Machine/Queue.lean ====
section
/-! DEFINITION. The receive queue: reservation, records, head, watermark arm and fill capture
(chapter 5). -/

namespace Sys2Proof.Machine

/-- The watermark after a fall of the used bytes from an earlier figure (R107). -/
def Rxq.fallen (before : Nat) (q : Rxq) : Rxq :=
  if q.used < before ∧ belowLevel q.watermark q.used then { q with arm := true } else q

/-- A frame's space is there: the free bytes are not fewer than its record size (R91). -/
def Rxq.fits (h : Header) (q : Rxq) : Bool := decide (recordSize h.length ≤ q.free)

/-- The claim at classification completion: the reservation, or the queue-full mark (R91, R92). -/
def Rxq.claimFor (h : Header) (r : Classified) (q : Rxq) : Rxq :=
  { q with claim := if q.fits h then .reserved h r else .queueFull }

/-- The record a reservation turns into (R89, R94). -/
def recordOf (h : Header) (r : Classified) (stamp : Stamp) (payload : List Byte) : Record :=
  { source := h.source
    topic := h.topic
    kind := h.kind
    seq := h.seq
    length := h.length
    relation := r.relation.recordFlag
    urgent := r.urgent
    slot := if r.action = .both then r.slot else none
    matched := r.matched
    stamp := stamp
    payload := payload }

/-- A record joins the list as the newest; a record that becomes the head starts QDATA at 0 (R94, R100). -/
def Rxq.push (r : Record) (q : Rxq) : Rxq :=
  { q with
    records := q.records ++ [r]
    claim := .nothing
    readPos := if q.records.isEmpty then 0 else q.readPos }

/-- The claim ends with its frame abandoned (R96). -/
def Rxq.abandon (q : Rxq) : Rxq := { q with claim := .nothing }.fallen q.used

/-- RELEASE HEAD with a head (R101). -/
def Rxq.release (q : Rxq) : Rxq := { q with records := q.records.tail, readPos := 0 }.fallen q.used

/-- FLUSH QUEUE: the claim of the frame in flight is kept (R103). -/
def Rxq.flush (q : Rxq) : Rxq := { q with records := [], readPos := 0 }.fallen q.used

/-- SOFT RESET at the queue: the arm is set, the setting and the capture are kept (R112). -/
def Rxq.softReset (q : Rxq) : Rxq :=
  { q with records := [], claim := .nothing, readPos := 0, arm := true }

/-- A write of WATERMARK: 65 to 255 are held as 64, and the arm is set when the new level lies above
the used bytes (R106, R108). -/
def Rxq.writeWatermark (value : Byte) (q : Rxq) : Rxq :=
  let w := min value.toNat 64
  { q with watermark := w, arm := q.arm || belowLevel w q.used }

/-- A read of QDATA moves the read position when it has found a head and a position below 48 (R100,
R190). -/
def Rxq.dataMoves (q : Rxq) : Bool := q.head.isSome && decide (q.readPos < Config.maxPayload)

end Sys2Proof.Machine
end

