-- ==== Sys2Proof/Machine/Slots.lean ====
section
/-! DEFINITION. The latest-value slots: updates, stale watch, snapshots and the captured views
(chapter 6). -/

namespace Sys2Proof.Machine

/-! ### One slot -/

/-- One more update received, up to 255 (R117, R125). -/
def Slot.bump (sl : Slot) : Slot := { sl with unread := satAdd Config.totalTop sl.unread 1 }

/-- An update's content is written: age 0 and FRESH; unread is counted by Slot.bump (R117). -/
def Slot.write (u : SlotContent) (sl : Slot) : Slot :=
  { sl with state := .fresh, content := u, age := 0 }

/-- The update is held back while a snapshot of the slot is in flight (R125). -/
def Slot.defer (u : SlotContent) (sl : Slot) : Slot := { sl.bump with deferred := some u }

/-- The stale watch counts this slot at a tick (R118). -/
def Slot.watched (sl : Slot) : Bool :=
  decide (sl.maxAge ≠ 0 ∧ (sl.state = .fresh ∨ sl.state = .seen))

/-- The slot goes STALE at the next tick (R118). -/
def Slot.expires (sl : Slot) : Bool := sl.watched && decide (sl.age + 1 = sl.maxAge)

/-- A slot after a tick (R118). -/
def Slot.tick (sl : Slot) : Slot :=
  if sl.watched then
    { sl with age := sl.age + 1, state := if sl.age + 1 = sl.maxAge then .stale else sl.state }
  else sl

/-- A slot after the taking of its snapshot (R122). -/
def Slot.taken (sl : Slot) : Slot :=
  { sl with unread := 0, state := if sl.state = .fresh then .seen else sl.state }

/-! ### The store -/

/-- The slot at an index. -/
def Lvs.slotAt (l : Lvs) (n : Nat) : Slot := l.slots.getD n (.emptied 0)

def Lvs.setSlot (n : Nat) (sl : Slot) (l : Lvs) : Lvs := { l with slots := l.slots.set n sl }

/-- An update for this slot is held back (R125, R126). -/
def Lvs.defers (n : Nat) (l : Lvs) : Bool := decide (l.snap = some ⟨n, false⟩)

/-- An update reaches its slot: applied at once, or held as the deferred update (R116, R117, R125). -/
def Lvs.update (n : Nat) (u : SlotContent) (l : Lvs) : Lvs :=
  if l.defers n then l.setSlot n ((l.slotAt n).defer u) else l.setSlot n ((l.slotAt n).bump.write u)

/-- The update makes the slot enter FRESH (R117). -/
def Lvs.updateFreshens (n : Nat) (l : Lvs) : Bool :=
  !l.defers n && decide ((l.slotAt n).state ≠ .fresh)

/-- A slot goes STALE at this tick (R118). -/
def Lvs.anyExpires (l : Lvs) : Bool := l.slots.any (·.expires)

/-- The stale watch acts on every slot (R118). -/
def Lvs.tick (l : Lvs) : Lvs := { l with slots := l.slots.map Slot.tick }

/-- SET SLOT WATCH: new limit, age 0 (R120). -/
def Lvs.setWatch (n maxAge : Nat) (l : Lvs) : Lvs :=
  l.setSlot n { l.slotAt n with maxAge := maxAge, age := 0 }

/-- The taking of a snapshot (R122). -/
def Lvs.takeSnapshot (n : Nat) (l : Lvs) : Lvs :=
  let sl := l.slotAt n
  { l with
    slots := l.slots.set n sl.taken
    snap := some ⟨n, decide (sl.state = .empty)⟩
    winValid := false
    window := ⟨n, sl.state, sl.unread, sl.age, sl.maxAge, sl.content⟩
    readPos := 0 }

/-- The update deferred at the slot of the snapshot in flight (R124). -/
def Lvs.deferredAtSnap (l : Lvs) : Option SlotContent :=
  l.snap.bind fun f => (l.slotAt f.slot).deferred

/-- Copy completion: the window becomes visible, a deferred update is applied without a further count,
and the snapshot is no longer in flight (R124). -/
def Lvs.endCopy (l : Lvs) : Lvs :=
  match l.snap with
  | none => l
  | some f =>
    let sl := l.slotAt f.slot
    let slots := match sl.deferred with
      | none => l.slots
      | some u => l.slots.set f.slot { sl.write u with deferred := none }
    { l with slots := slots, winValid := true, snap := none }

/-- The deferred update of copy completion makes its slot enter FRESH (R117, R124). -/
def Lvs.endCopyFreshens (l : Lvs) : Bool :=
  match l.snap with
  | none => false
  | some f => (l.slotAt f.slot).deferred.isSome && decide ((l.slotAt f.slot).state ≠ .fresh)

/-- A read of SDATA moves the read position when it has found the window valid and a position below 48
(R128, R190). -/
def Lvs.dataMoves (l : Lvs) : Bool := l.winValid && decide (l.readPos < Config.maxPayload)

/-- SOFT RESET at the store: slots keep their max_age, the capture is kept (R132). -/
def Lvs.softReset (l : Lvs) : Lvs :=
  { l with
    slots := l.slots.map fun sl => .emptied sl.maxAge
    held := none
    snap := none
    winValid := false
    window := .zero
    readPos := 0 }

end Sys2Proof.Machine
end

