-- ==== Sys2Proof/Machine/Source.lean ====
section
/-! DEFINITION. The source table: relations, its update at frame commit, eviction, and the five source
commands (chapter 3). -/

namespace Sys2Proof.Machine

/-! ### Relations (R43, R44) -/

/-- The entry of a source address. -/
def sourceEntry (t : List SourceEntry) (addr : Byte) : Option SourceEntry := t.find? (·.addr == addr)

/-- An entry for a new source can be made: the table has room, or an unpinned entry to evict (R43). -/
def roomForSource (t : List SourceEntry) : Bool :=
  decide (t.length < Config.sourceEntries) || t.any (!·.pinned)

/-- The relation of a frame at sequence distance d from its source's entry (R43, R44). -/
def relationAt (d : Nat) (sendToPart : Bool) (stored : Option Verdict) : Relation :=
  if d = 0 then (if sendToPart ∧ stored ≠ some .accept then .retry else .duplicate)
  else if d = 1 then .next
  else if d ≤ 32 then .gap (d - 1)
  else .resync

/-- The relation of a frame to its source's history (R43). -/
def relationOf (t : List SourceEntry) (source : Byte) (seq : Seq) (sendToPart : Bool) : Relation :=
  match sourceEntry t source with
  | none => if roomForSource t then .first else .untracked
  | some e =>
    match e.lastSeq with
    | none => .first
    | some last => relationAt (seq - last).toNat sendToPart e.lastVerdict

/-! ### The table at frame commit (R41, R46 to R50) -/

/-- Eviction: the unpinned entry nearest the end of the recency order leaves (R41). -/
def evictOne (t : List SourceEntry) : List SourceEntry := (t.reverse.eraseP (!·.pinned)).reverse

/-- A new entry at position 0, evicting if the table is full; with 24 pinned entries none can be made
(R41, R48, R53). -/
def addEntry (e : SourceEntry) (t : List SourceEntry) : List SourceEntry :=
  if t.length < Config.sourceEntries then e :: t
  else if t.any (!·.pinned) then e :: evictOne t
  else t

/-- What last_verdict becomes at the commit of a frame (R49). -/
def verdictAfter (r : InHand) (fixed old : Option Verdict) : Option Verdict :=
  if r.relation = .duplicate then old else if r.toPart then fixed else none

/-- The totals of an entry after the commit of a frame with this relation (R47). -/
def gapTotalAfter (r : Relation) (total : Nat) : Nat :=
  match r with
  | .gap n => satAdd Config.totalTop total n
  | .first | .next | .resync | .retry | .duplicate | .untracked => total

def dupTotalAfter (r : Relation) (total : Nat) : Nat :=
  if r = .duplicate then satAdd Config.totalTop total 1 else total

/-- An entry brought up to date by a commit (R46, R47, R49). -/
def SourceEntry.committed (r : InHand) (fixed : Option Verdict) (stamp : Stamp) (e : SourceEntry) : SourceEntry :=
  { e with
    lastSeq := some r.seq
    lastVerdict := verdictAfter r fixed e.lastVerdict
    gapTotal := gapTotalAfter r.relation e.gapTotal
    dupTotal := dupTotalAfter r.relation e.dupTotal
    heard := stamp }

/-- The entry made for a FIRST frame of a source that has none (R48). -/
def firstEntry (r : InHand) (fixed : Option Verdict) (stamp : Stamp) : SourceEntry :=
  ⟨r.source, some r.seq, verdictAfter r fixed none, false, 0, 0, stamp⟩

/-- The source table after the commit of the frame in hand (R46, R48, R50). -/
def commitTable (r : InHand) (fixed : Option Verdict) (stamp : Stamp) (t : List SourceEntry) : List SourceEntry :=
  if r.relation = .untracked then t
  else
    match sourceEntry t r.source with
    | some e => e.committed r fixed stamp :: t.eraseP (·.addr == r.source)
    | none => addEntry (firstEntry r fixed stamp) t

/-- The source tracker after the commit; the relation in hand is used up (R42). -/
def Srt.commit (fixed : Option Verdict) (stamp : Stamp) (t : Srt) : Srt :=
  match t.inHand with
  | none => t
  | some r => { t with table := commitTable r fixed stamp t.table, inHand := none }

/-! ### Source commands (R53 to R57) -/

/-- The entry PIN SOURCE makes for an address that has none (R53). -/
def pinnedEntry (addr : Byte) (stamp : Stamp) : SourceEntry := ⟨addr, none, none, true, 0, 0, stamp⟩

/-- The entry of an address with its pin set to a value. -/
def setPin (addr : Byte) (v : Bool) (t : List SourceEntry) : List SourceEntry :=
  t.map fun e => if e.addr == addr then { e with pinned := v } else e

/-- PIN SOURCE as it takes effect (R53). -/
def pinEffect (addr : Byte) (stamp : Stamp) (t : Srt) : Srt × CmdResult :=
  match sourceEntry t.table addr with
  | some _ => ({ t with table := setPin addr true t.table }, .ok)
  | none =>
    if roomForSource t.table then ({ t with table := addEntry (pinnedEntry addr stamp) t.table }, .ok)
    else (t, .full)

/-- UNPIN SOURCE as it takes effect (R54). -/
def unpinEffect (addr : Byte) (t : Srt) : Srt × CmdResult :=
  match sourceEntry t.table addr with
  | some _ => ({ t with table := setPin addr false t.table }, .ok)
  | none => (t, .notFound)

/-- FORGET SOURCE as it takes effect (R55). -/
def forgetEffect (addr : Byte) (t : Srt) : Srt × CmdResult :=
  match sourceEntry t.table addr with
  | some _ => ({ t with table := t.table.eraseP (·.addr == addr) }, .ok)
  | none => (t, .notFound)

/-- FORGET UNPINNED as it takes effect (R56). -/
def forgetUnpinnedEffect (t : Srt) : Srt × CmdResult :=
  ({ t with table := t.table.filter (·.pinned) }, .ok)

/-- READ SOURCE as it takes effect (R57). -/
def readSourceEffect (pos : Nat) (t : Srt) : Srt × CmdResult :=
  match t.table[pos]? with
  | some e => ({ t with window := some ⟨pos, e⟩ }, .ok)
  | none => (t, .notFound)

/-- A source command as it takes effect, by its captured argument (R52, R170). Only the five source
commands are handed to the source tracker. -/
def sourceEffect (c : Cmd) (arg : Byte) (stamp : Stamp) (t : Srt) : Srt × CmdResult :=
  match c with
  | .pinSource => pinEffect arg stamp t
  | .unpinSource => unpinEffect arg t
  | .forgetSource => forgetEffect arg t
  | .forgetUnpinned => forgetUnpinnedEffect t
  | .readSource => readSourceEffect arg.toNat t
  | .nop | .startLine | .stopLine | .releaseHead | .flushQueue | .snapshotSlot | .setSlotWatch
  | .commitEntry | .clearEntry | .readEntry | .snapshotCounters | .hostSleep | .hostAwake
  | .softReset => (t, .ok)

/-- SOFT RESET at the source tracker: unpinned entries go, pinned ones lose sequence, verdict and
totals (R59). -/
def Srt.softReset (t : Srt) : Srt :=
  { table := (t.table.filter (·.pinned)).map fun e =>
      { e with lastSeq := none, lastVerdict := none, gapTotal := 0, dupTotal := 0 }
    inHand := none
    window := none }

end Sys2Proof.Machine
end

