-- ==== Sys2Proof/Machine/Ops.lean ====
section
/-! DEFINITION. The operations several commands share: completion of host commands, the idle hold,
classification completion, frame commit and frame abandon, ticks, stopping the line, and the taking of
a command and of SOFT RESET. -/

namespace Sys2Proof.Machine

/-! ### The command unit (R171 to R174) -/

/-- Completion of the command in flight: the record is written, the unit returns to IDLE, CMD_DONE
becomes pending (R174). -/
def complete (r : CmdResult) (s : State) : State :=
  match s.cmu.inFlight with
  | none => s
  | some f => raise .cmdDone (s.withCmu { s.cmu with last := f.cmd.code, result := r, inFlight := none })

/-- A source command takes effect and completes (R53 to R57, R174). -/
def runSource (f : InFlight) (s : State) : State :=
  let e := sourceEffect f.cmd f.arg s.tkg.tickCount s.srt
  complete e.2 (s.withSrt e.1)

/-- An entry command takes effect and completes (R79 to R82, R174). -/
def runEntry (f : InFlight) (s : State) : State :=
  let e := entryEffect f.cmd f.arg s.acf
  complete e.2 (s.withAcf e.1)

/-- The source command in flight waits for the end of a frame (R52). -/
def State.sourceWaits (s : State) : Bool :=
  match s.cmu.inFlight with
  | none => false
  | some f => f.cmd.isSource

/-- The entry command in flight waits for a classification (R77). -/
def State.entryWaits (s : State) : Bool :=
  match s.cmu.inFlight with
  | none => false
  | some f => f.cmd.isEntry

/-- A source command in flight takes effect once no relation is in hand (R52). -/
def sourceTurn (s : State) : State :=
  match s.cmu.inFlight with
  | none => s
  | some f => if f.cmd.isSource ∧ s.srt.inHand = none then runSource f s else s

/-- An entry command in flight takes effect once no classification is in flight (R77). -/
def entryTurn (s : State) : State :=
  match s.cmu.inFlight with
  | none => s
  | some f => if f.cmd.isEntry ∧ s.acf.job = none then runEntry f s else s

/-! ### The idle hold (R11) -/

/-- The three conditions of the idle hold hold together (R11). -/
def State.idleHolds (s : State) : Bool :=
  decide (s.clc.line = .active ∧ s.lrv.rx = .hunt) && s.rsp.state.isIdle

/-- The countdown as it is loaded: with IDLE_HOLD, and not at all when that is 0 (R11). -/
def State.loadedIdle (s : State) : Option Nat :=
  if s.cfg.idleHold = 0 then none else some s.cfg.idleHold.toNat

/-- The countdown loaded or reloaded. -/
def loadIdle (s : State) : State := s.withClc { s.clc with idleCount := s.loadedIdle }

/-- After a line event: the countdown is loaded when the three conditions have become true together,
goes on while they hold, and holds no value otherwise (R11). -/
def syncIdle (s : State) : State :=
  if s.idleHolds then (if s.clc.idleCount = none then loadIdle s else s)
  else s.withClc { s.clc with idleCount := none }

/-! ### Receiver states -/

/-- Entry to HUNT with characters framed by their start bits (R22, R32, R34). -/
def enterHunt (s : State) : State :=
  s.withLrv { s.lrv with rx := .hunt, mode := .framed, high := none, skipIdle := none }

/-- Entry to SKIP; its idle count starts at zero (R32). -/
def enterSkip (s : State) : State :=
  s.withLrv { s.lrv with rx := .skip, mode := .framed, skipIdle := some 0 }

/-- Entry to HEADER: the buffer is cleared and the CRC started (R23). -/
def enterHeader (s : State) : State :=
  s.withLrv { s.lrv with rx := .header, mode := .framed, skipIdle := none, buffer := .empty }

/-- The line receiver takes the level of LRX while a character is in progress or none is: the low time
runs while LRX is low, the idle time while LRX is high and no character is in progress (R18, R33). -/
def noteLevel (level : Bool) (s : State) : State :=
  (s.withLrx level).withLrv
    { s.lrv with
      low := if level then none else some (s.lrv.low.getD 0)
      idle := if level ∧ !s.lrv.charBusy then some (s.lrv.idle.getD 0) else none }

/-- A character is over, LRX now at this level (R17, R18). -/
def endCharacter (level : Bool) (s : State) : State :=
  noteLevel level (s.withLrv { s.lrv with charBusy := false })

/-! ### Classification (R65 to R68) -/

/-- The receive queue's part of classification completion: the reservation, which may be the rise of
the watermark, or the queue-full mark (R91, R92, R107). -/
def claimSpace (h : Header) (r : Classified) (s : State) : State :=
  let q := s.rxq.claimFor h r
  if s.rxq.fits h ∧ q.arm ∧ !belowLevel q.watermark q.used then
    raise .watermark (s.withRxq { q with arm := false })
  else s.withRxq q

/-- The mark the receive queue hands to the responder, for QUEUE and BOTH (R92). -/
def queueMark (r : Classified) (q : Rxq) : Option QueueMark :=
  if r.action.queues then
    (match q.claim with
     | .reserved _ _ => some .reserved
     | .queueFull => some .queueFull
     | .nothing => none)
  else none

/-- The responder takes action and mark for a SEND to the part (R68, R92, Table 57). -/
def tellResponder (r : Classified) (s : State) : State :=
  s.withRsp { s.rsp with
    inputs := s.rsp.inputs.map fun i => { i with action := some r.action, mark := queueMark r s.rxq } }

/-- Classification completion: the result is fixed and handed on, and a waiting entry command takes
effect (R68, R77). -/
def finishClassification (s : State) : State :=
  match s.acf.job with
  | none => s
  | some j =>
    let r := classify s.cfg s.acf.hash j
    let s := s.withAcf { s.acf with job := none, held := some ⟨r, false⟩ }
    let s := if r.action.queues then claimSpace j.hdr r s else s
    let s := s.withLvs { s.lvs with held := if r.action.updates then r.slot else none }
    entryTurn (tellResponder r s)

/-! ### Frame commit (R27) -/

/-- The verdict of a SEND to the part (Table 58); none only where an input is missing, which no frame
of the line brings about (R26, R135). -/
def fixVerdict (i : VerdictInputs) : Option Verdict :=
  match i.cls with
  | .duplicate => i.stored
  | .untracked | .tracked =>
    match i.action, i.mark with
    | some .discard, _ => some .refuseFilter
    | some .latest, _ => some .accept
    | some .queue, some .queueFull | some .both, some .queueFull => some .refuseFull
    | some .queue, some .reserved | some .both, some .reserved => some .accept
    | some .queue, none | some .both, none | none, _ => none

/-- What the source tracker reports at commit (R47, R50). -/
def reportRelation (r : Relation) (s : State) : State :=
  match r with
  | .gap n => raise .gap (countBy .gapFrames n s)
  | .resync => raise .gap (count .resyncs s)
  | .duplicate => count .duplicates s
  | .untracked => count .untracked s
  | .first | .next | .retry => s

/-- The source tracker's part of commit (R46 to R50). -/
def commitSource (fixed : Option Verdict) (s : State) : State :=
  match s.srt.inHand with
  | none => s
  | some r => reportRelation r.relation (s.withSrt (s.srt.commit fixed s.tkg.tickCount))

/-- The acceptance filter's part of commit (R72, R73). -/
def commitFilter (s : State) : State :=
  match s.acf.held with
  | none => s
  | some h =>
    let s := s.withAcf s.acf.commit
    if h.result.action = .discard then count .filtered s else s

/-- The receive queue's part of commit: the record, reported to the mitigation, or the counted drop
(R94, R95). -/
def commitQueue (payload : List Byte) (s : State) : State :=
  match s.rxq.claim with
  | .nothing => s
  | .reserved h r =>
    let s := s.withRxq (s.rxq.push (recordOf h r s.tkg.tickCount payload))
    s.withNwc (s.nwc.recordCommit r.urgent)
  | .queueFull =>
    let s := s.withRxq { s.rxq with claim := .nothing }
    raise .qfull (count .qfullDrops s)

/-- The latest-value store's part of commit (R116). -/
def commitSlot (h : Header) (payload : List Byte) (s : State) : State :=
  match s.lvs.held with
  | none => s
  | some n =>
    let u : SlotContent := ⟨h.source, h.topic, h.seq, h.length, payload, s.tkg.tickCount⟩
    let s' := s.withLvs { s.lvs.update n u with held := none }
    if s.lvs.updateFreshens n then raise .slot s' else s'

/-- The responder's part of commit: the response is built and the wait begins (R135, R137, R140). -/
def commitResponse (s : State) : State :=
  match s.rsp.inputs with
  | none => s
  | some i =>
    match fixVerdict i with
    | none => s.withRsp { s.rsp with inputs := none }
    | some v => s.withRsp ⟨.waiting (responseFrame s.cfg.ownAddress i.source i.seq v), none⟩

/-- Frame commit: every block acts on the one event, the receiver enters HUNT, and a source command
that waited takes effect after the source tracker's part (R27, R52). -/
def commitFrame (s : State) : State :=
  let h := headerOf s.lrv.buffer.hdr
  let payload := s.lrv.buffer.payload
  let fixed := s.rsp.inputs.bind fixVerdict
  let s := count .framesGood s
  let s := commitSource fixed s
  let s := commitFilter s
  let s := commitQueue payload s
  let s := commitSlot h payload s
  let s := commitResponse s
  sourceTurn (enterHunt s)

/-! ### Frame abandon (R28) -/

/-- Every block discards what it holds for the frame in flight (R28). -/
def abandonFrame (s : State) : State :=
  let s := s.withLrv { s.lrv with buffer := .empty }
  let s := s.withSrt { s.srt with inHand := none }
  let s := s.withAcf { s.acf with job := none, held := none }
  let s := s.withRxq s.rxq.abandon
  let s := s.withLvs { s.lvs with held := none }
  s.withRsp { s.rsp with inputs := none }

/-- A frame is in flight: the receiver is in HEADER or BODY (section 2.4). -/
def State.frameInFlight (s : State) : Bool := decide (s.lrv.rx = .header ∨ s.lrv.rx = .body)

/-- A line event ends the frame in flight without commit; its classification has completed before,
and a waiting source command takes effect (R28, R52, R68; notes/assumptions/9.md). -/
def loseFrame (s : State) : State := sourceTurn (abandonFrame (finishClassification s))

/-! ### Line states (Table 13) -/

/-- Entry to RISING: the settle count begins, for the periods SETTLE_SEL selects (R2). -/
def enterRising (s : State) : State :=
  s.withClc { line := .rising, settle := some (settlePeriods s.cfg.settleSel), idleCount := none }

/-- Entry to LISTEN, and on to RISING at once when LRX is low (R7). -/
def enterListen (s : State) : State :=
  if s.lrx then s.withClc { line := .listen, settle := none, idleCount := none } else enterRising s

/-- Idle-hold expiry: the receiver stops and the line goes to LISTEN (R12, R21). -/
def expireIdle (s : State) : State := enterListen (s.withLrv .off)

/-- What STOP LINE and SOFT RESET do to the line: DORMANT, receiver stopped, a frame in flight
abandoned, a response under way stopped without a count (R13, R14, R146). -/
def stopTheLine (s : State) : State :=
  let s := abandonFrame s
  let s := s.withClc { line := .dormant, settle := none, idleCount := none }
  (s.withLrv .off).withRsp ⟨.idle, none⟩

/-! ### Ticks (R1, R4) -/

/-- The idle-hold countdown at a tick: it stands still during a character (R11, R12). -/
def tickIdle (s : State) : State :=
  match s.clc.idleCount with
  | none => s
  | some k =>
    if s.lrv.charBusy ∨ s.idleHolds = false then s
    else if k ≤ 1 then expireIdle s
    else s.withClc { s.clc with idleCount := some (k - 1) }

/-- The stale watch at a tick: STALE becomes pending once for all slots that expire (R118). -/
def tickSlots (s : State) : State :=
  let s' := s.withLvs s.lvs.tick
  if s.lvs.anyExpires then raise .stale s' else s'

/-- One tick: tick count, stale watch, hold-off and idle hold; the prescale count returns to 0 (R1,
R3, R4). -/
def doTick (s : State) : State :=
  let s := s.withTkg { s.tkg with prescale := 0, tickCount := s.tkg.tickCount + 1 }
  let s := tickSlots s
  let s := s.withNwc s.nwc.tick
  tickIdle s

/-- One LCLK period: the prescale count, and the tick when it reaches the tick period (R3). -/
def lclkPeriod (s : State) : State :=
  if s.inReset then s
  else if tickPeriod s.cfg.tickShift ≤ s.tkg.prescale + 1 then doTick s
  else s.withTkg { s.tkg with prescale := s.tkg.prescale + 1 }

/-! ### Taking a command (R171, R172) -/

/-- The command unit captures argument and parameter and enters BUSY (R170, R171). -/
def Cmu.capture (c : Cmu) (cmd : Cmd) : InFlight := ⟨cmd, c.arg, c.paramH ++ c.paramL, 0⟩

/-- A write to CMD of a command's code other than SOFT RESET's: refused while BUSY, otherwise taken
and handed to its owner (R171, R172). -/
def takeCommand (cmd : Cmd) (owner : InFlight → State → State) (s : State) : State :=
  match s.cmu.inFlight with
  | some _ => s.withCmu { s.cmu with rejected := true }
  | none =>
    let f := s.cmu.capture cmd
    owner f (s.withCmu { s.cmu with inFlight := some f })

/-! ### SOFT RESET (R179) -/

/-- The command unit's part at the taking: a command in flight is recorded as ABORTED, and SOFT RESET
is the command in flight (R179). -/
def Cmu.takeSoftReset (c : Cmu) : Cmu :=
  match c.inFlight with
  | none => { c with inFlight := some (c.capture .softReset) }
  | some f =>
    { c with
      last := f.cmd.code
      result := .aborted
      inFlight := some { c.capture .softReset with abortCode := f.cmd.code } }

/-- The taking of SOFT RESET, at every block; the reports that arrive with it are taken after it (R14, R39,
R59, R86, R112, R132, R146, R169, R179, R187; notes/assumptions/24.md). -/
def takeSoftReset (s : State) : State :=
  let s := s.withCmu s.cmu.takeSoftReset
  let s := stopTheLine s
  let s := s.withSrt s.srt.softReset
  let s := s.withAcf s.acf.softReset
  let s := s.withRxq s.rxq.softReset
  let s := s.withLvs s.lvs.softReset
  let s := s.withNwc (s.nwc.softReset s.spi.late.flags)
  s.withCtb (s.ctb.softReset s.spi.late.counts)

end Sys2Proof.Machine
end

