-- ==== Sys2Proof/Machine/Line.lean ====
section
/-! DEFINITION. The line commands: edges on LRX, settle completion, the first-character decision,
characters, frames, SKIP and STUCK, and the response on the line (chapters 1, 2 and 7). -/

namespace Sys2Proof.Machine

/-! ### Edges -/

/-- A character start: the times of the line, the first-character decision, a response that waits, and
the idle hold act on it (R9, R11, R17, R18, R138). -/
def characterStart (s : State) : State :=
  let s := s.withLrv
    { s.lrv with
      charBusy := true
      idle := none
      low := some 0
      skipIdle := s.lrv.skipIdle.map fun _ => 0
      mode := if s.lrv.mode = .decisionOpen then .deciding else s.lrv.mode }
  let s := match s.rsp.state with
    | .waiting _ => count .responseAborts (s.withRsp { s.rsp with state := .idle })
    | .idle | .sending _ _ => s
  if s.idleHolds then loadIdle s else syncIdle s

/-- A falling edge in ACTIVE: in STUCK it returns the high time to zero; inside a character it only
starts the low time; otherwise, and while the decision or the watch is on, it is a character start
(R17, R22, R33, R34). -/
def fallingEdgeActive (s : State) : State :=
  if s.lrv.rx = .stuck then s.withLrv { s.lrv with high := none, idle := none }
  else if s.lrv.charBusy ∧ s.lrv.mode = .framed then s.withLrv { s.lrv with low := some 0 }
  else characterStart s

/-- A falling edge on LRX, by the line state it meets; there is none while LRX is low (R7, R8, R17). -/
def fallingEdge (s : State) : State :=
  if s.lrx then
    let s := s.withLrx false
    match s.clc.line with
    | .dormant | .rising => s
    | .listen => enterRising s
    | .active => fallingEdgeActive s
  else s

/-- A rising edge on LRX; there is none while LRX is high (R18, R33, R34). -/
def risingEdge (s : State) : State :=
  if s.lrx then s
  else
    let s := s.withLrx true
    if s.clc.line = .active then
      s.withLrv
        { s.lrv with
          low := none
          idle := if s.lrv.charBusy then none else some 0
          high := if s.lrv.rx = .stuck then some 0 else none }
    else s

/-- LRX_FALLING_EDGE (R7): in LISTEN it takes the line to RISING. -/
def execLrxFallingEdge (s : State) : Host.Outcome State Fault Refusal := .next (fallingEdge s)

/-- CHARACTER_START (R17). -/
def execCharacterStart (s : State) : Host.Outcome State Fault Refusal := .next (fallingEdge s)

/-- STUCK_FALLING_EDGE (R34). -/
def execStuckFallingEdge (s : State) : Host.Outcome State Fault Refusal := .next (fallingEdge s)

/-- LRX_RISING_EDGE (R18, R33, R34). -/
def execLrxRisingEdge (s : State) : Host.Outcome State Fault Refusal := .next (risingEdge s)

/-! ### Settle completion and the first-character decision (R8, R9, R22) -/

/-- The line receiver as it starts in ACTIVE, LRX at this level (R8, R18, R21, R33). -/
def Lrv.started (lrx : Bool) : Lrv :=
  { Lrv.off with
    rx := .hunt
    mode := .decisionOpen
    idle := if lrx then some 0 else none
    low := if lrx then none else some 0 }

/-- SETTLE_COMPLETION: it occurs in RISING only (R8). -/
def settled (s : State) : State :=
  if s.clc.line = .rising then
    syncIdle ((s.withClc { line := .active, settle := none, idleCount := none }).withLrv (.started s.lrx))
  else s

def execSettleCompletion (s : State) : Host.Outcome State Fault Refusal := .next (settled s)

/-- The first-character decision finds this character: the ten bit times show it, and neither run into the
delimiter nor begin after it has started (R9, R15; notes/assumptions/26.md). -/
def tenBitsFind (character : Byte) (samples : TenBits) : Bool :=
  decide (samples.place = .clear ∧ samples.bits = charSamples character)

/-- FIRST_CHARACTER_DECISION: the ten bit times find a preamble character, the delimiter, or neither (R9,
R15). Ten bit times from bit 2 or 4 of the last preamble character alternate and yet run into the delimiter,
and ten bit times inside a header or payload may alternate (a byte 0x55) or show the delimiter's pattern (a
byte 0xC5). For these R9's first two cases say a character found, its proviso, its list of other cases and
R15 a frame lost and counted. DESIGN CHOICE, unsafe: the model takes them as lost and counted
(notes/assumptions/26.md). -/
def firstCharacter (samples : TenBits) (level : Bool) (s : State) : State :=
  if s.lrv.rx = .hunt ∧ s.lrv.mode = .deciding then
    syncIdle <|
      if tenBitsFind preambleChar samples then
        let s := noteLevel level s
        s.withLrv { s.lrv with mode := .watching }
      else if tenBitsFind delimiterChar samples then enterHeader (endCharacter level s)
      else count .missedRising (enterSkip (noteLevel level s))
  else s

def execFirstCharacterDecision (samples : TenBits) (level : Bool) (s : State) : Host.Outcome State Fault Refusal :=
  .next (firstCharacter samples level s)

/-- DELIMITER_PATTERN: the watched bit stream shows the delimiter; HEADER takes its alignment from it,
so the delimiter is the character that ends here (R9, R22; notes/assumptions/16.md). -/
def delimiterFound (level : Bool) (s : State) : State :=
  if s.lrv.rx = .hunt ∧ s.lrv.mode = .watching then syncIdle (enterHeader (endCharacter level s)) else s

def execDelimiterPattern (level : Bool) (s : State) : Host.Outcome State Fault Refusal :=
  .next (delimiterFound level s)

/-- HUNT_WATCH_IDLE: the watch ends with no count, and characters are framed by their start bits (R22). -/
def watchEnds (s : State) : State :=
  if s.lrv.rx = .hunt ∧ s.lrv.mode = .watching ∧ s.lrv.idle.isSome then
    s.withLrv { s.lrv with mode := .framed, idle := some Config.frameGap }
  else s

def execHuntWatchIdle (s : State) : Host.Outcome State Fault Refusal := .next (watchEnds s)

/-! ### Characters in a frame (R22 to R27, R30) -/

/-- A frame is lost to the line: the count, the abandon, and SKIP (R30, R31). -/
def loseToSkip (k : Counter) (s : State) : State := enterSkip (loseFrame (count k s))

/-- What the blocks receive for a valid header of format 0 (R24, R42, R45, R65, R134, Table 23). -/
def handOn (h : Header) (s : State) : State :=
  let toPart := h.sendToPart s.cfg.ownAddress
  if h.tracked then
    let rel := relationOf s.srt.table h.source h.seq toPart
    let stored := (sourceEntry s.srt.table h.source).bind (·.lastVerdict)
    let s := s.withSrt { s.srt with inHand := some ⟨h.source, h.seq, h.kind, h.dest, toPart, rel⟩ }
    let s :=
      if h.forPart s.cfg.ownAddress ∧ rel ≠ .duplicate then
        s.withAcf { s.acf with job := some ⟨h, rel, searchFrom h 0 s.acf.table⟩ }
      else s
    if toPart then
      s.withRsp { s.rsp with
        inputs := some ⟨h.source, h.seq, rel.relClass, if rel = .duplicate then stored else none, none, none⟩ }
    else s
  else s

/-- Header completion: invalid, foreign, or received on in BODY (R20, R24). -/
def headerComplete (s : State) : State :=
  let h := headerOf s.lrv.buffer.hdr
  if !h.valid then enterSkip (count .headerErrors s)
  else if h.format ≠ 0 then enterSkip (count .foreign s)
  else
    let s := handOn h s
    s.withLrv { s.lrv with rx := .body }

/-- A header byte (R23). -/
def headerChar (b : Byte) (s : State) : State :=
  let buf := s.lrv.buffer
  let s := s.withLrv { s.lrv with buffer := { buf with hdr := buf.hdr ++ [b], crc := crcByte buf.crc b } }
  if s.lrv.buffer.hdr.length = Config.headerBytes then headerComplete s else s

/-- Check completion (R26). -/
def checkComplete (s : State) : State :=
  if s.lrv.buffer.crc = 0 then commitFrame s
  else enterHunt (loseFrame (count .checkErrors s))

/-- A character of BODY: length payload bytes, then two check characters (R25). -/
def bodyChar (b : Byte) (s : State) : State :=
  let buf := s.lrv.buffer
  let crc := crcByte buf.crc b
  if buf.payload.length < (headerOf buf.hdr).length then
    s.withLrv { s.lrv with buffer := { buf with payload := buf.payload ++ [b], crc := crc } }
  else
    let s := s.withLrv { s.lrv with buffer := { buf with checks := buf.checks + 1, crc := crc } }
    if 2 ≤ s.lrv.buffer.checks then checkComplete s else s

/-- A character framed in HUNT (R22). -/
def huntChar (b : Byte) (stop : Bool) (s : State) : State :=
  if stop ∧ b = preambleChar then s
  else if stop ∧ b = delimiterChar then enterHeader s
  else enterSkip s

/-! ### Readback (R142 to R144) -/

/-- A readback mismatch: the response stops, and the receiver enters SKIP unless it is STUCK (R143,
Table 22). -/
def readbackMismatch (s : State) : State :=
  let s := count .responseAborts (s.withRsp { s.rsp with state := .idle })
  if s.lrv.rx = .stuck then s else enterSkip s

/-- A character handed back while SENDING (R142, R144). -/
def readbackChar (b : Byte) (stop : Bool) (chars : List Byte) (done : Nat) (s : State) : State :=
  if stop ∧ chars[done]? = some b then
    if Config.responseChars ≤ done + 1 then count .responsesSent (s.withRsp { s.rsp with state := .idle })
    else s.withRsp { s.rsp with state := .sending chars (done + 1) }
  else readbackMismatch s

/-! ### The end of a character -/

/-- A character that the receiver has framed, by its receiver state (R22, R23, R25, R30, R32). In BODY
the classification of the frame has completed before (R68; notes/assumptions/9.md). -/
def receiveChar (b : Byte) (stop : Bool) (s : State) : State :=
  match s.lrv.rx with
  | .hunt => if s.lrv.mode = .framed then huntChar b stop s else s
  | .header => if stop then headerChar b s else loseToSkip .framingErrors s
  | .body =>
    let s := finishClassification s
    if stop then bodyChar b s else loseToSkip .framingErrors s
  | .off | .skip | .stuck => s

/-- CHARACTER_END: the receiver treats the character, or hands it to the readback while the responder
is SENDING (R17, R36). With no character in progress the command tells only that LRX is high again. -/
def characterEnd (b : Byte) (stop level : Bool) (s : State) : State :=
  if s.lrv.charBusy then
    let s := endCharacter level s
    syncIdle <|
      match s.rsp.state with
      | .sending chars done => readbackChar b stop chars done s
      | .idle | .waiting _ => receiveChar b stop s
  else if level then risingEdge s
  else s

def execCharacterEnd (data : Byte) (stop level : Bool) (s : State) : Host.Outcome State Fault Refusal :=
  .next (characterEnd data stop level s)

/-! ### Truncation, SKIP and STUCK (R31 to R34) -/

/-- TRUNCATION: two character times of idle in HEADER or BODY (R31). -/
def truncated (s : State) : State :=
  if s.frameInFlight ∧ s.lrv.idle.isSome then
    syncIdle (loseToSkip .truncated (s.withLrv { s.lrv with idle := some Config.frameGap }))
  else s

def execTruncation (s : State) : Host.Outcome State Fault Refusal := .next (truncated s)

/-- END_OF_SKIP: two character times of idle within SKIP (R32). -/
def skipEnds (s : State) : State :=
  if s.lrv.rx = .skip ∧ s.lrv.skipIdle.isSome ∧ s.lrv.idle.isSome then
    syncIdle (enterHunt (s.withLrv { s.lrv with idle := s.lrv.idle.map (· + Config.frameGap) }))
  else s

def execEndOfSkip (s : State) : Host.Outcome State Fault Refusal := .next (skipEnds s)

/-- ENTRY_TO_STUCK: the low time reaches its limit. A character in progress would have ended before
(R17, R33; notes/assumptions/18.md). -/
def stuck (s : State) : State :=
  if s.clc.line = .active ∧ s.lrv.rx ≠ .stuck ∧ s.lrv.low.isSome ∧ s.lrv.charBusy = false then
    let s := if s.frameInFlight then loseFrame s else s
    let s := s.withLrv { s.lrv with rx := .stuck, mode := .framed, low := none, high := none, skipIdle := none }
    syncIdle (raise .lineFault s)
  else s

def execEntryToStuck (s : State) : Host.Outcome State Fault Refusal := .next (stuck s)

/-- END_OF_STUCK: the high time reaches four character times (R34). -/
def stuckEnds (s : State) : State :=
  if s.lrv.rx = .stuck ∧ s.lrv.high.isSome then
    syncIdle (raise .lineRecover (enterHunt (s.withLrv { s.lrv with idle := some Config.stuckRecovery })))
  else s

def execEndOfStuck (s : State) : Host.Outcome State Fault Refusal := .next (stuckEnds s)

/-! ### The response on the line (R138, R139, R142) -/

/-- RESPONSE_WAIT_END: three character times of idle in WAITING; LTXEN is asserted and the first
character begins (R138, R139). -/
def waitEnds (s : State) : State :=
  match s.rsp.state with
  | .waiting chars =>
    if s.lrv.rx = .hunt ∧ s.lrv.idle.isSome then
      (s.withRsp { s.rsp with state := .sending chars 0 }).withLrv
        { s.lrv with idle := some Config.responseDelay }
    else s
  | .idle | .sending _ _ => s

def execResponseWaitEnd (s : State) : Host.Outcome State Fault Refusal := .next (waitEnds s)

/-- MISSING_ECHO: no character has started on LRX for the character being sent (R142, R143). -/
def echoMissing (s : State) : State :=
  match s.rsp.state with
  | .sending _ _ => if s.lrv.charBusy then s else syncIdle (readbackMismatch s)
  | .idle | .waiting _ => s

def execMissingEcho (s : State) : Host.Outcome State Fault Refusal := .next (echoMissing s)

/-- The fast oscillator runs in RISING and ACTIVE (R2, Table 8). -/
def State.oscillatorOn (s : State) : Bool := decide (s.clc.line = .rising ∨ s.clc.line = .active)

/-- LTXEN, asserted exactly while SENDING (R139). -/
def State.ltxen (s : State) : Bool :=
  match s.rsp.state with
  | .sending _ _ => true
  | .idle | .waiting _ => false

/-- The levels the responder drives on LTX for its characters, one a bit time, back to back (R141). -/
def ltxLevels (chars : List Byte) : List Bool :=
  chars.flatMap fun c => (List.range 10).map fun k => (charSamples c).getLsbD k

/-- The level of LTX in a bit time, counted from the entry to SENDING: high but while SENDING, when it is
that of the response's characters, and high after their last stop bit (R133, R139, R141, R144, Table 56;
notes/assumptions/21.md). -/
def State.ltx (bitTime : Nat) (s : State) : Bool :=
  match s.rsp.state with
  | .sending chars _ => (ltxLevels chars).getD bitTime true
  | .idle | .waiting _ => true

end Sys2Proof.Machine
end

