-- ==== Sys2Proof/Machine/Completions.lean ====
section
/-! DEFINITION. The ends of operations that take time: classification, snapshot copy, the clear of SOFT
RESET, and the waits of source and entry commands (R52, R68, R77, R124, R180). -/

namespace Sys2Proof.Machine

/-- CLASSIFICATION_COMPLETION: it occurs while a classification is in flight (R68). -/
def execClassificationCompletion (s : State) : Host.Outcome State Fault Refusal :=
  .next (finishClassification s)

/-- DEFERRED_ENTRY_COMMAND: the classification completion at which a waiting entry command takes effect
(R77; notes/assumptions/8.md). -/
def execDeferredEntryCommand (s : State) : Host.Outcome State Fault Refusal :=
  .next (if s.entryWaits then finishClassification s else s)

/-- The line event that ends a frame. -/
def endingEvent (e : FrameEnding) (s : State) : State :=
  match e with
  | .characterEnd data stop level => characterEnd data stop level s
  | .truncation => truncated s
  | .entryToStuck => stuck s

/-- DEFERRED_SOURCE_COMMAND: the end of the frame at which a waiting source command takes effect; where
none waits, or the event does not end the frame, it does not occur (R52; notes/assumptions/8.md). -/
def execDeferredSourceCommand (e : FrameEnding) (s : State) : Host.Outcome State Fault Refusal :=
  let s' := endingEvent e s
  .next (if s.sourceWaits ∧ s'.sourceWaits = false then s' else s)

/-- Copy completion of the snapshot in flight (R124). -/
def copyDone (s : State) : State :=
  if s.lvs.snap.isSome then
    let s' := s.withLvs s.lvs.endCopy
    complete .ok (if s.lvs.endCopyFreshens then raise .slot s' else s')
  else s

/-- COPY_COMPLETION (R124). -/
def execCopyCompletion (s : State) : Host.Outcome State Fault Refusal := .next (copyDone s)

/-- Clear completion of the SOFT RESET in flight (R180). -/
def clearDone (s : State) : State :=
  match s.cmu.inFlight with
  | none => s
  | some f =>
    if f.cmd = .softReset then complete .ok (s.withCmu { s.cmu with aborted := f.abortCode }) else s

/-- CLEAR_COMPLETION (R180). -/
def execClearCompletion (s : State) : Host.Outcome State Fault Refusal := .next (clearDone s)

end Sys2Proof.Machine
end

