-- ==== Sys2Proof/Machine/Port.lean ====
section
/-! DEFINITION. The SPI port: transactions, the address pointer, data bytes written and read, and the level
of MISO (R188 to R193). -/

namespace Sys2Proof.Machine

/-- The address of QDATA, and of SDATA on page 1 (R191). -/
def isDataPort (s : State) (addr : RegAddr) : Bool :=
  addr == 0x2C || (addr == 0x5E && s.spi.page == 1)

/-- The pointer after the byte at an address: it stays at a data port, and otherwise advances from
0x7F to 0x00 (R189, R191). -/
def ptrAfter (s : State) (addr : RegAddr) : RegAddr := if isDataPort s addr then addr else addr + 1

/-! ### Data bytes written -/

/-- A write transaction is served and the pointer stands at this address (R189, R193). -/
def State.writesAt (addr : RegAddr) (s : State) : Bool :=
  !s.inReset && decide (s.spi.phase = .write ∧ s.spi.ptr = addr)

/-- A data byte written at an address, with the effect of that write, and the reports that arrived with it
taken; where no write transaction stands at the address there is no such byte (R189;
notes/assumptions/10.md). -/
def hostWrite (addr : RegAddr) (effect : State → State) (s : State) : State :=
  if s.writesAt addr then
    let s' := effect s
    s'.withSpi { s'.spi with ptr := ptrAfter s addr, out := 0, late := ⟨0, []⟩ }
  else s

/-! ### Data bytes read -/

/-- What the completion of the byte loaded at this address will do (R190). -/
def State.loadEffect (s : State) (addr : RegAddr) : LoadEffect :=
  if addr = 0x1E then .tickCount s.tkg.tickCount
  else if addr = 0x2D then .fill s.rxq.used s.rxq.free s.rxq.records.length
  else if addr = 0x34 then .sets (slotsIn .fresh s.lvs.slots) (slotsIn .stale s.lvs.slots)
  else if addr = 0x15 then .mitigation s.nwc.u
  else if addr = 0x2C then (if s.rxq.dataMoves then .nextQueueByte else .nothing)
  else if addr = 0x5E ∧ s.spi.page = 1 then (if s.lvs.dataMoves then .nextSlotByte else .nothing)
  else .nothing

/-- The load of the register at an address: the byte returned, and the figure a capture takes (R190). -/
def State.loadAt (s : State) (addr : RegAddr) : Load := ⟨s.readReg addr, s.loadEffect addr⟩

/-- The side effect of a read, at the completion of its byte (R190). -/
def applyLoad (e : LoadEffect) (s : State) : State :=
  match e with
  | .nothing => s
  | .tickCount c => s.withTkg { s.tkg with capture := c }
  | .fill used free count => s.withRxq { s.rxq with capUsed := used, capFree := free, capCount := count }
  | .sets fresh stale => s.withLvs { s.lvs with capFresh := fresh, capStale := stale }
  | .mitigation u => s.withNwc { s.nwc with mitCapture := u }
  | .nextQueueByte => s.withRxq { s.rxq with readPos := advancePos s.rxq.readPos }
  | .nextSlotByte => s.withLvs { s.lvs with readPos := advancePos s.lvs.readPos }

/-- A data byte of a read transaction is complete: its side effect, the pointer, and the load of the next
byte at the falling edge that ends this one (R190, R191; notes/assumptions/25.md). -/
def completeRead (s : State) : State :=
  match s.spi.phase with
  | .read l =>
    let s' := applyLoad l.effect s
    let p := ptrAfter s s.spi.ptr
    s'.withSpi { s'.spi with ptr := p, phase := .read (s'.loadAt p), out := l.byte }
  | .closed | .command _ | .write => s

/-- A data byte read at the address of a row of its own; where the pointer stands elsewhere there is no
such byte (R190; notes/assumptions/10.md). -/
def hostRead (addr : RegAddr) (s : State) : State :=
  if s.inReset = false ∧ s.spi.ptr = addr then completeRead s else s

/-! ### Transactions -/

/-- CS_N falls: a transaction begins, and STATUS_L is taken for the command byte; a reset in force ignores
it (R188, R193). -/
def selectPort (s : State) : State :=
  if s.spi.csN then
    s.withSpi { s.spi with csN := false, phase := if s.inReset then .closed else .command s.statusL }
  else s

/-- CS_N rises: the transaction ends (R188). -/
def deselectPort (s : State) : State :=
  if s.spi.csN then s else s.withSpi { s.spi with csN := true, phase := .closed, late := ⟨0, []⟩ }

/-- Reports arrive together with the data byte under way in a write transaction (R169, R187;
notes/assumptions/24.md). -/
def noteArrivals (late : LateReports) (s : State) : State :=
  if s.spi.phase = .write then s.withSpi { s.spi with late := late } else s

/-- The command byte is complete: bits 6 to 0 load the pointer, and bit 7 selects a read, whose first byte
is loaded, or a write (R188, R190). -/
def commandLoaded (byte : Byte) (s : State) : State :=
  match s.spi.phase with
  | .command status =>
    let p := byte.extractLsb' 0 7
    s.withSpi
      { s.spi with
        ptr := p
        phase := if byte.getLsbD 7 then .read (s.loadAt p) else .write
        out := status }
  | .closed | .write | .read _ => s

/-- An event of the port; a reset in force ignores all but the level of CS_N (R193). -/
def portEvent (event : PortEvent) (s : State) : State :=
  match event with
  | .select => selectPort s
  | .deselect => deselectPort s
  | .command byte => if s.inReset then s else commandLoaded byte s
  | .dataRead => if s.inReset then s else completeRead s
  | .arrivals late => if s.inReset then s else noteArrivals late s

/-- What the part shifts out on MISO, most significant bit first, in the byte under way; none while MISO is
at high impedance: with CS_N high and in reset (R188 to R190, R193). DESIGN CHOICE, unsafe: MISO is at high
impedance too after the reset's end with CS_N low, in a transaction that is not served because CS_N fell
during the reset; R193 says nothing of MISO there (notes/assumptions/27.md). -/
def State.miso (s : State) : Option Byte :=
  if s.inReset ∨ s.spi.csN then none
  else
    match s.spi.phase with
    | .closed => none
    | .command status => some status
    | .write => some 0
    | .read l => some l.byte

end Sys2Proof.Machine
end

