-- ==== Sys2Proof/Machine/HostCommands.lean ====
section
/-! DEFINITION. The host's commands: what each owner does at the taking, and the write to CMD that
takes it (R171 to R175, Table 74). -/

namespace Sys2Proof.Machine

/-! ### Owners -/

/-- START LINE (R6). -/
def ownStartLine (_ : InFlight) (s : State) : State :=
  if s.clc.line ≠ .dormant then complete .state s
  else if s.cfg.ownAddress = 0 then complete .arg s
  else if s.cfg.idleHold = 0 then complete .ok (enterRising s)
  else complete .ok (enterListen s)

/-- STOP LINE (R13). -/
def ownStopLine (_ : InFlight) (s : State) : State :=
  if s.clc.line = .dormant then complete .state s else complete .ok (stopTheLine s)

/-- A source command that names a source: the address is checked at the taking, and the command waits
while a relation is in hand (R52, R173). -/
def ownNamedSource (f : InFlight) (s : State) : State :=
  if isNode f.arg then sourceTurn s else complete .arg s

/-- A source command without an address check (R52, R56, R57). -/
def ownSource (_ : InFlight) (s : State) : State := sourceTurn s

/-- An entry command: the index is checked at the taking, and the command waits while a classification
is in flight (R77, R78). -/
def ownEntry (f : InFlight) (s : State) : State :=
  if f.arg.toNat < Config.acceptanceEntries then entryTurn s else complete .arg s

/-- RELEASE HEAD (R101). -/
def ownReleaseHead (_ : InFlight) (s : State) : State :=
  if s.rxq.head.isSome then complete .ok (s.withRxq s.rxq.release) else complete .empty s

/-- FLUSH QUEUE, reported to the controller (R103, R160). -/
def ownFlushQueue (_ : InFlight) (s : State) : State :=
  complete .ok ((s.withRxq s.rxq.flush).withNwc s.nwc.flushed)

/-- SNAPSHOT SLOT: it stays in flight until copy completion (R122). -/
def ownSnapshotSlot (f : InFlight) (s : State) : State :=
  if f.arg.toNat < Config.slotCount then s.withLvs (s.lvs.takeSnapshot f.arg.toNat)
  else complete .arg s

/-- SET SLOT WATCH (R120). -/
def ownSetSlotWatch (f : InFlight) (s : State) : State :=
  if f.arg.toNat < Config.slotCount then
    complete .ok (s.withLvs (s.lvs.setWatch f.arg.toNat f.param.toNat))
  else complete .arg s

/-- HOST SLEEP (R163). -/
def ownHostSleep (_ : InFlight) (s : State) : State :=
  if s.nwc.host = .asleep then complete .state s else complete .ok (s.withNwc s.nwc.sleep)

/-- HOST AWAKE (R165). -/
def ownHostAwake (_ : InFlight) (s : State) : State :=
  if s.nwc.host = .awake then complete .state s else complete .ok (s.withNwc s.nwc.awaken)

/-- SNAPSHOT COUNTERS (R185). -/
def ownSnapshotCounters (_ : InFlight) (s : State) : State := complete .ok (s.withCtb s.ctb.snapshot)

/-- NOP (R176). -/
def ownNop (_ : InFlight) (s : State) : State := complete .ok s

/-! ### Writes to CMD -/

/-- The address of CMD (Table 82). -/
def cmdAddr : RegAddr := 0x06

/-- A write to CMD of a code that names no command: taken and completed at once with ARG, or refused
while BUSY (R172, R173, R198). -/
def takeUnknown (code : Byte) (s : State) : State :=
  match s.cmu.inFlight with
  | some _ => s.withCmu { s.cmu with rejected := true }
  | none => raise .cmdDone (s.withCmu { s.cmu with last := code, result := .arg })

/-- A write to CMD of any code (R171, R172, R173, R179). -/
def writeCmd (code : Byte) (s : State) : State :=
  match Cmd.ofCode code with
  | none => takeUnknown code s
  | some .startLine => takeCommand .startLine ownStartLine s
  | some .stopLine => takeCommand .stopLine ownStopLine s
  | some .pinSource => takeCommand .pinSource ownNamedSource s
  | some .unpinSource => takeCommand .unpinSource ownNamedSource s
  | some .forgetSource => takeCommand .forgetSource ownNamedSource s
  | some .forgetUnpinned => takeCommand .forgetUnpinned ownSource s
  | some .readSource => takeCommand .readSource ownSource s
  | some .commitEntry => takeCommand .commitEntry ownEntry s
  | some .clearEntry => takeCommand .clearEntry ownEntry s
  | some .readEntry => takeCommand .readEntry ownEntry s
  | some .releaseHead => takeCommand .releaseHead ownReleaseHead s
  | some .flushQueue => takeCommand .flushQueue ownFlushQueue s
  | some .snapshotSlot => takeCommand .snapshotSlot ownSnapshotSlot s
  | some .setSlotWatch => takeCommand .setSlotWatch ownSetSlotWatch s
  | some .hostSleep => takeCommand .hostSleep ownHostSleep s
  | some .hostAwake => takeCommand .hostAwake ownHostAwake s
  | some .snapshotCounters => takeCommand .snapshotCounters ownSnapshotCounters s
  | some .nop => takeCommand .nop ownNop s
  | some .softReset => takeSoftReset s

/-- START_LINE (R6). -/
def execStartLine (s : State) : Host.Outcome State Fault Refusal :=
  .next (hostWrite cmdAddr (takeCommand .startLine ownStartLine) s)

/-- STOP_LINE (R13). -/
def execStopLine (s : State) : Host.Outcome State Fault Refusal :=
  .next (hostWrite cmdAddr (takeCommand .stopLine ownStopLine) s)

/-- PIN_SOURCE (R53). -/
def execPinSource (s : State) : Host.Outcome State Fault Refusal :=
  .next (hostWrite cmdAddr (takeCommand .pinSource ownNamedSource) s)

/-- UNPIN_SOURCE (R54). -/
def execUnpinSource (s : State) : Host.Outcome State Fault Refusal :=
  .next (hostWrite cmdAddr (takeCommand .unpinSource ownNamedSource) s)

/-- FORGET_SOURCE (R55). -/
def execForgetSource (s : State) : Host.Outcome State Fault Refusal :=
  .next (hostWrite cmdAddr (takeCommand .forgetSource ownNamedSource) s)

/-- FORGET_UNPINNED (R56). -/
def execForgetUnpinned (s : State) : Host.Outcome State Fault Refusal :=
  .next (hostWrite cmdAddr (takeCommand .forgetUnpinned ownSource) s)

/-- READ_SOURCE (R57). -/
def execReadSource (s : State) : Host.Outcome State Fault Refusal :=
  .next (hostWrite cmdAddr (takeCommand .readSource ownSource) s)

/-- COMMIT_ENTRY (R79). -/
def execCommitEntry (s : State) : Host.Outcome State Fault Refusal :=
  .next (hostWrite cmdAddr (takeCommand .commitEntry ownEntry) s)

/-- CLEAR_ENTRY (R81). -/
def execClearEntry (s : State) : Host.Outcome State Fault Refusal :=
  .next (hostWrite cmdAddr (takeCommand .clearEntry ownEntry) s)

/-- READ_ENTRY (R82). -/
def execReadEntry (s : State) : Host.Outcome State Fault Refusal :=
  .next (hostWrite cmdAddr (takeCommand .readEntry ownEntry) s)

/-- RELEASE_HEAD (R101). -/
def execReleaseHead (s : State) : Host.Outcome State Fault Refusal :=
  .next (hostWrite cmdAddr (takeCommand .releaseHead ownReleaseHead) s)

/-- FLUSH_QUEUE (R103). -/
def execFlushQueue (s : State) : Host.Outcome State Fault Refusal :=
  .next (hostWrite cmdAddr (takeCommand .flushQueue ownFlushQueue) s)

/-- SNAPSHOT_SLOT (R122). -/
def execSnapshotSlot (s : State) : Host.Outcome State Fault Refusal :=
  .next (hostWrite cmdAddr (takeCommand .snapshotSlot ownSnapshotSlot) s)

/-- SET_SLOT_WATCH (R120). -/
def execSetSlotWatch (s : State) : Host.Outcome State Fault Refusal :=
  .next (hostWrite cmdAddr (takeCommand .setSlotWatch ownSetSlotWatch) s)

/-- HOST_SLEEP (R163). -/
def execHostSleep (s : State) : Host.Outcome State Fault Refusal :=
  .next (hostWrite cmdAddr (takeCommand .hostSleep ownHostSleep) s)

/-- HOST_AWAKE (R165). -/
def execHostAwake (s : State) : Host.Outcome State Fault Refusal :=
  .next (hostWrite cmdAddr (takeCommand .hostAwake ownHostAwake) s)

/-- SNAPSHOT_COUNTERS (R185). -/
def execSnapshotCounters (s : State) : Host.Outcome State Fault Refusal :=
  .next (hostWrite cmdAddr (takeCommand .snapshotCounters ownSnapshotCounters) s)

/-- SOFT_RESET: taken in IDLE and in BUSY (R179). -/
def execSoftReset (s : State) : Host.Outcome State Fault Refusal :=
  .next (hostWrite cmdAddr takeSoftReset s)

/-- NOP (R176). -/
def execNop (s : State) : Host.Outcome State Fault Refusal :=
  .next (hostWrite cmdAddr (takeCommand .nop ownNop) s)

/-- UNKNOWN_COMMAND (R173). A code that names a command is that command's write to CMD. -/
def execUnknownCommand (code : Byte) (s : State) : Host.Outcome State Fault Refusal :=
  .next (hostWrite cmdAddr (writeCmd code) s)

end Sys2Proof.Machine
end

