-- ==== Sys2Proof/Machine/Registers.lean ====
section
/-! DEFINITION. Register writes, the six reads with an effect, and SPI transactions (chapter 10). -/

namespace Sys2Proof.Machine

/-! ### Writes with a row of their own -/

/-- A write to PENDING clears the flags written with one; clearing a pending RX re-counts (R150, R159). -/
def clearPending (high : Bool) (value : Byte) (s : State) : State :=
  s.withNwc (s.nwc.clear (flagsOf high value) s.rxq.records.length)

/-- PENDING_CLEAR (R150). -/
def execPendingClear (high : Bool) (value : Byte) (s : State) : Host.Outcome State Fault Refusal :=
  .next (hostWrite (if high then 0x0C else 0x0B) (clearPending high value) s)

/-- A write to CMD_FLAGS (R178). -/
def clearCmdFlags (value : Byte) (s : State) : State :=
  s.withCmu
    { s.cmu with
      rejected := s.cmu.rejected && !value.getLsbD 0
      configLocked := s.cmu.configLocked && !value.getLsbD 1 }

/-- CMD_FLAGS_CLEAR (R178). -/
def execCmdFlagsClear (value : Byte) (s : State) : Host.Outcome State Fault Refusal :=
  .next (hostWrite 0x0A (clearCmdFlags value) s)

/-- A write of IRQ enables; IRQ follows, since its level is computed (R152, R153). -/
def writeIrqEn (high : Bool) (value : Byte) (s : State) : State :=
  s.withNwc { s.nwc with irqEn := flagsReplace high value s.nwc.irqEn }

/-- IRQ_EN_WRITE (R152). -/
def execIrqEnWrite (high : Bool) (value : Byte) (s : State) : Host.Outcome State Fault Refusal :=
  .next (hostWrite (if high then 0x0E else 0x0D) (writeIrqEn high value) s)

/-- A write of WATERMARK (R106, R108). -/
def writeWatermark (value : Byte) (s : State) : State := s.withRxq (s.rxq.writeWatermark value)

/-- WATERMARK_WRITE (R108). -/
def execWatermarkWrite (value : Byte) (s : State) : Host.Outcome State Fault Refusal :=
  .next (hostWrite 0x33 (writeWatermark value) s)

/-- How an accepted write of a locked register is held (R195). -/
def LockedConfig.write (reg : LockedReg) (value : Byte) (c : LockedConfig) : LockedConfig :=
  match reg with
  | .ownAddress => { c with ownAddress := if value.toNat ≤ Config.maxNode then value else 0 }
  | .lineRate => { c with lineRate := value.extractLsb' 0 2 }
  | .filterMode => { c with filterMode := if value.getLsbD 0 then .openMode else .closed }
  | .hashOn => { c with hashOn := value.getLsbD 0 }
  | .tickShift => { c with tickShift := value.extractLsb' 0 3 }
  | .settleSel => { c with settleSel := value.extractLsb' 0 2 }
  | .idleHold => { c with idleHold := value }

/-- A write to a locked register: accepted in DORMANT, otherwise ignored with CONFIG_LOCKED set (R194). -/
def writeLocked (reg : LockedReg) (value : Byte) (s : State) : State :=
  if s.clc.line = .dormant then s.withCfg (s.cfg.write reg value)
  else s.withCmu { s.cmu with configLocked := true }

/-- The addresses of the locked registers (Table 82). -/
def lockedRegAddr : LockedReg → RegAddr
  | .ownAddress => 0x17 | .lineRate => 0x18 | .filterMode => 0x19 | .hashOn => 0x1A
  | .tickShift => 0x1B | .settleSel => 0x1C | .idleHold => 0x1D

/-- LOCKED_REGISTER_WRITE (R194). -/
def execLockedRegisterWrite (reg : LockedReg) (value : Byte) (s : State) : Host.Outcome State Fault Refusal :=
  .next (hostWrite (lockedRegAddr reg) (writeLocked reg value) s)

/-! ### Every other register -/

/-- RX_THRESHOLD as a write holds it (R156). -/
def heldThreshold (value : Byte) : Nat := max 1 (min value.toNat 16)

/-- A write in the staging entry; read-only and absent registers ignore it (R75, Table 83). -/
def writeStaging (addr : Nat) (v : Byte) (g : Staging) : Staging :=
  match addr with
  | 0x40 =>
    { g with
      valid := v.getLsbD 0
      kinds := v.extractLsb' 1 2
      action := Action.ofCode (v.extractLsb' 3 2)
      urgent := v.getLsbD 5 }
  | 0x41 => { g with topicLow := g.topicLow.extractLsb' 8 4 ++ v }
  | 0x42 => { g with topicLow := v.extractLsb' 0 4 ++ g.topicLow.extractLsb' 0 8 }
  | 0x43 => { g with topicHigh := g.topicHigh.extractLsb' 8 4 ++ v }
  | 0x44 => { g with topicHigh := v.extractLsb' 0 4 ++ g.topicHigh.extractLsb' 0 8 }
  | 0x45 => { g with source := v }
  | 0x46 => { g with slot := v }
  | _ => g

/-- A write in the paged area (R64, R75, R192). -/
def writePaged (addr : Nat) (v : Byte) (s : State) : State :=
  if s.spi.page = 0 then s.withAcf { s.acf with hash := s.acf.hash.set (addr - 0x40) v }
  else if s.spi.page = 1 then s.withAcf { s.acf with staging := writeStaging addr v s.acf.staging }
  else s

/-- A write in the common area; read-only and absent registers ignore it (Table 82). -/
def writeCommon (addr : Nat) (v : Byte) (s : State) : State :=
  match addr with
  | 0x02 => s.withSpi { s.spi with page := v.extractLsb' 0 2 }
  | 0x03 => s.withCmu { s.cmu with arg := v }
  | 0x04 => s.withCmu { s.cmu with paramL := v }
  | 0x05 => s.withCmu { s.cmu with paramH := v }
  | 0x06 => writeCmd v s
  | 0x0A => clearCmdFlags v s
  | 0x0B => clearPending false v s
  | 0x0C => clearPending true v s
  | 0x0D => writeIrqEn false v s
  | 0x0E => writeIrqEn true v s
  | 0x0F => s.withNwc { s.nwc with wakeEn := flagsReplace false v s.nwc.wakeEn }
  | 0x10 => s.withNwc { s.nwc with wakeEn := flagsReplace true v s.nwc.wakeEn }
  | 0x13 => s.withNwc { s.nwc with rxThreshold := heldThreshold v }
  | 0x14 => s.withNwc { s.nwc with rxHoldoff := v.toNat }
  | 0x17 => writeLocked .ownAddress v s
  | 0x18 => writeLocked .lineRate v s
  | 0x19 => writeLocked .filterMode v s
  | 0x1A => writeLocked .hashOn v s
  | 0x1B => writeLocked .tickShift v s
  | 0x1C => writeLocked .settleSel v s
  | 0x1D => writeLocked .idleHold v s
  | 0x33 => writeWatermark v s
  | _ => s

/-- A write of a byte at an address of the window (R189, R192). -/
def writeReg (addr : RegAddr) (v : Byte) (s : State) : State :=
  if addr.toNat < 0x40 then writeCommon addr.toNat v s else writePaged addr.toNat v s

/-- REGISTER_WRITE (R189). At an address with a row of its own it is that row's write. -/
def execRegisterWrite (addr : RegAddr) (value : Byte) (s : State) : Host.Outcome State Fault Refusal :=
  .next (hostWrite addr (writeReg addr value) s)

/-! ### Reads with an effect (R190) -/

/-- TICK_COUNT_L_READ: the whole count is captured (R4). -/
def execTickCountLRead (s : State) : Host.Outcome State Fault Refusal := .next (hostRead 0x1E s)

/-- QUSED_L_READ: the three fill figures are captured (R105). -/
def execQusedLRead (s : State) : Host.Outcome State Fault Refusal := .next (hostRead 0x2D s)

/-- FRESH_SET_L_READ: both views are captured (R129). -/
def execFreshSetLRead (s : State) : Host.Outcome State Fault Refusal := .next (hostRead 0x34 s)

/-- MIT_COUNT_L_READ: U is captured (R155). -/
def execMitCountLRead (s : State) : Host.Outcome State Fault Refusal := .next (hostRead 0x15 s)

/-- QDATA_READ: the next payload byte of the head (R100). -/
def execQdataRead (s : State) : Host.Outcome State Fault Refusal := .next (hostRead 0x2C s)

/-- SDATA_READ: the next payload byte of the window. Its address shows SDATA on page 1 only; with
another page selected the byte there is read, with no effect (R128, R192; notes/assumptions/13.md). -/
def execSdataRead (s : State) : Host.Outcome State Fault Refusal := .next (hostRead 0x5E s)

/-! ### Transactions -/

/-- COMMAND_BYTE: the start of a transaction, its command byte, a data byte read at the pointer, what arrives
with a data byte written, or its end (R188, R190; notes/assumptions/11.md, notes/assumptions/24.md). -/
def execCommandByte (event : PortEvent) (s : State) : Host.Outcome State Fault Refusal :=
  .next (portEvent event s)

end Sys2Proof.Machine
end

