-- ==== Sys2Proof/Machine/Resets.lean ====
section
/-! DEFINITION. Power-on reset, pin reset and the end of either (R193, R199, R200). -/

namespace Sys2Proof.Machine

/-- Every block at its values after power-on or pin reset, a transaction under way ended; the levels of
LRX and CS_N and the queue of commands are not the part's to reset (R193, R199, R200;
notes/assumptions/14.md). -/
def resetBlocks (s : State) : State :=
  (((State.reset.withLrx s.lrx).withSpi { State.reset.spi with csN := s.spi.csN }).withPending
    s.pending).withInReset true

/-- POWER_ON_RESET (R199). -/
def execPowerOnReset (s : State) : Host.Outcome State Fault Refusal := .next (resetBlocks s)

/-- PIN_RESET: the same effect (00_scope.md section 6.6). -/
def execPinReset (s : State) : Host.Outcome State Fault Refusal := .next (resetBlocks s)

/-- RESET_END: the first tick period begins and the port serves (R193, R199). -/
def execResetEnd (s : State) : Host.Outcome State Fault Refusal := .next (s.withInReset false)

end Sys2Proof.Machine
end

