-- ==== Sys2Proof/Machine/Ticks.lean ====
section
/-! DEFINITION. TICK and the three expiries, each of which is the tick at which it comes about
(R3, R12, R118, R158; notes/assumptions/7.md). -/

namespace Sys2Proof.Machine

/-- TICK: ticks occur in every line state, from the end of the reset on (R3, R199). -/
def execTick (s : State) : Host.Outcome State Fault Refusal :=
  .next (if s.inReset then s else doTick s)

/-- A tick that occurs only where this holds of the state. -/
def tickWhere (due : Bool) (s : State) : State := if s.inReset = false ∧ due then doTick s else s

/-- The slot at this index reaches its max_age at the next tick (R118). -/
def Lvs.expiresAt (slot : Nat) (l : Lvs) : Bool := (l.slots[slot]?.map Slot.expires).getD false

/-- STALE_WATCH_EXPIRY (R118). -/
def execStaleWatchExpiry (slot : Nat) (s : State) : Host.Outcome State Fault Refusal :=
  .next (tickWhere (s.lvs.expiresAt slot) s)

/-- The hold-off countdown reaches 0 at the next tick (R158). -/
def Nwc.expiresNext (n : Nwc) : Bool := n.holdOff == some 1

/-- HOLD_OFF_EXPIRY (R158). -/
def execHoldOffExpiry (s : State) : Host.Outcome State Fault Refusal :=
  .next (tickWhere s.nwc.expiresNext s)

/-- The idle-hold countdown reaches 0 at the next tick (R11, R12). -/
def State.idleExpiresNext (s : State) : Bool :=
  s.clc.idleCount == some 1 && s.idleHolds && !s.lrv.charBusy

/-- IDLE_HOLD_EXPIRY (R12). -/
def execIdleHoldExpiry (s : State) : Host.Outcome State Fault Refusal :=
  .next (tickWhere s.idleExpiresNext s)

end Sys2Proof.Machine
end

