-- ==== Sys2Proof/Machine/Dispatch.lean ====
section
/-! DEFINITION. The dispatch: one arm for each command. -/

namespace Sys2Proof.Machine

def exec (i : Instr) (s : State) : Host.Outcome State Fault Refusal :=
  match i with
  | .powerOnReset => Sys2Proof.Machine.execPowerOnReset s
  | .pinReset => Sys2Proof.Machine.execPinReset s
  | .resetEnd => Sys2Proof.Machine.execResetEnd s
  | .tick => Sys2Proof.Machine.execTick s
  | .staleWatchExpiry slot => Sys2Proof.Machine.execStaleWatchExpiry slot s
  | .holdOffExpiry => Sys2Proof.Machine.execHoldOffExpiry s
  | .idleHoldExpiry => Sys2Proof.Machine.execIdleHoldExpiry s
  | .lrxFallingEdge => Sys2Proof.Machine.execLrxFallingEdge s
  | .settleCompletion => Sys2Proof.Machine.execSettleCompletion s
  | .firstCharacterDecision samples level => Sys2Proof.Machine.execFirstCharacterDecision samples level s
  | .characterStart => Sys2Proof.Machine.execCharacterStart s
  | .characterEnd data stop level => Sys2Proof.Machine.execCharacterEnd data stop level s
  | .classificationCompletion => Sys2Proof.Machine.execClassificationCompletion s
  | .truncation => Sys2Proof.Machine.execTruncation s
  | .endOfSkip => Sys2Proof.Machine.execEndOfSkip s
  | .huntWatchIdle => Sys2Proof.Machine.execHuntWatchIdle s
  | .entryToStuck => Sys2Proof.Machine.execEntryToStuck s
  | .endOfStuck => Sys2Proof.Machine.execEndOfStuck s
  | .responseWaitEnd => Sys2Proof.Machine.execResponseWaitEnd s
  | .missingEcho => Sys2Proof.Machine.execMissingEcho s
  | .copyCompletion => Sys2Proof.Machine.execCopyCompletion s
  | .clearCompletion => Sys2Proof.Machine.execClearCompletion s
  | .deferredSourceCommand ending => Sys2Proof.Machine.execDeferredSourceCommand ending s
  | .deferredEntryCommand => Sys2Proof.Machine.execDeferredEntryCommand s
  | .startLine => Sys2Proof.Machine.execStartLine s
  | .stopLine => Sys2Proof.Machine.execStopLine s
  | .pinSource => Sys2Proof.Machine.execPinSource s
  | .unpinSource => Sys2Proof.Machine.execUnpinSource s
  | .forgetSource => Sys2Proof.Machine.execForgetSource s
  | .forgetUnpinned => Sys2Proof.Machine.execForgetUnpinned s
  | .readSource => Sys2Proof.Machine.execReadSource s
  | .commitEntry => Sys2Proof.Machine.execCommitEntry s
  | .clearEntry => Sys2Proof.Machine.execClearEntry s
  | .readEntry => Sys2Proof.Machine.execReadEntry s
  | .releaseHead => Sys2Proof.Machine.execReleaseHead s
  | .flushQueue => Sys2Proof.Machine.execFlushQueue s
  | .snapshotSlot => Sys2Proof.Machine.execSnapshotSlot s
  | .setSlotWatch => Sys2Proof.Machine.execSetSlotWatch s
  | .hostSleep => Sys2Proof.Machine.execHostSleep s
  | .hostAwake => Sys2Proof.Machine.execHostAwake s
  | .snapshotCounters => Sys2Proof.Machine.execSnapshotCounters s
  | .softReset => Sys2Proof.Machine.execSoftReset s
  | .nop => Sys2Proof.Machine.execNop s
  | .unknownCommand code => Sys2Proof.Machine.execUnknownCommand code s
  | .pendingClear high value => Sys2Proof.Machine.execPendingClear high value s
  | .cmdFlagsClear value => Sys2Proof.Machine.execCmdFlagsClear value s
  | .irqEnWrite high value => Sys2Proof.Machine.execIrqEnWrite high value s
  | .watermarkWrite value => Sys2Proof.Machine.execWatermarkWrite value s
  | .lockedRegisterWrite reg value => Sys2Proof.Machine.execLockedRegisterWrite reg value s
  | .registerWrite addr value => Sys2Proof.Machine.execRegisterWrite addr value s
  | .tickCountLRead => Sys2Proof.Machine.execTickCountLRead s
  | .qusedLRead => Sys2Proof.Machine.execQusedLRead s
  | .freshSetLRead => Sys2Proof.Machine.execFreshSetLRead s
  | .mitCountLRead => Sys2Proof.Machine.execMitCountLRead s
  | .qdataRead => Sys2Proof.Machine.execQdataRead s
  | .sdataRead => Sys2Proof.Machine.execSdataRead s
  | .delimiterPattern level => Sys2Proof.Machine.execDelimiterPattern level s
  | .lrxRisingEdge => Sys2Proof.Machine.execLrxRisingEdge s
  | .stuckFallingEdge => Sys2Proof.Machine.execStuckFallingEdge s
  | .commandByte event => Sys2Proof.Machine.execCommandByte event s

end Sys2Proof.Machine
end

