-- ==== Sys2Proof/Machine/Step.lean ====
section
/-! DEFINITION. One step: the command at the front of the queue, or, on an empty queue, one LCLK period. -/

namespace Sys2Proof.Machine

/-- The command at the front of the queue acts on the part with the queue's rest. On an empty queue one
period of LCLK passes (R3; notes/assumptions/2.md). -/
def step (s : State) : Host.Outcome State Fault Refusal :=
  match s.pending with
  | c :: rest => exec c (s.withPending rest)
  | [] => .next (lclkPeriod s)

/-- The state with the command that a word spells at the front of its queue. No row of the table gives
bits, so no word spells a command (notes/assumptions/20.md). -/
def State.withFetchWord (s : State) (nbits w : Nat) : State :=
  match decodeTableWord nbits w with
  | none => s
  | some c => s.withPending (c :: s.pending)

end Sys2Proof.Machine
end

