-- ==== Sys2Proof/Safety.lean ====
section
/-! DEFINITION. What holds of the part in every state a run meets, said of one state: the bounds and
agreements that the document states for each block. The certificates state that every step keeps them.
At the end stand the few words that the certificates' statements share. -/

namespace Sys2Proof.Machine

/-- The used bytes never exceed the record memory (R91). -/
abbrev State.QueueFits (s : State) : Prop := s.rxq.used ≤ Config.recordMemory

/-- The tables of fixed size have it: 32 acceptance entries, 64 hash registers, 16 slots (R60, R64, R113). -/
abbrev State.TablesSized (s : State) : Prop :=
  s.acf.table.length = Config.acceptanceEntries ∧ s.acf.hash.length = Config.hashRegisters ∧
    s.lvs.slots.length = Config.slotCount

/-- From 0 to 24 source entries, no two with one address (R40). -/
abbrev State.SourcesDistinct (s : State) : Prop :=
  s.srt.table.length ≤ Config.sourceEntries ∧ (s.srt.table.map (·.addr)).Nodup

/-- The line receiver and the responder follow the line state: outside ACTIVE the receiver is off and
the responder IDLE, and a settle count runs in RISING only (R2, R10, R21, R133, R197). -/
abbrev State.LineAgrees (s : State) : Prop :=
  (s.clc.line ≠ .active → s.lrv = .off ∧ s.rsp.state = .idle) ∧
  (s.clc.line = .active → s.lrv.rx ≠ .off) ∧
  (s.clc.settle.isSome ↔ s.clc.line = .rising)

/-- While a response is under way the receiver is in HUNT, framing characters, or STUCK, and no
character is in progress during the wait (R36, R133, R138). -/
abbrev State.ResponseAgrees (s : State) : Prop :=
  (s.rsp.state ≠ .idle → s.lrv.mode = .framed ∧ (s.lrv.rx = .hunt ∨ s.lrv.rx = .stuck)) ∧
  (s.rsp.state.code = 1 → s.lrv.charBusy = false)

/-- Only a frame in BODY has anything held for it, and a classification in flight has no result yet
(section 2.4, R42, R65, R91, R115, R134). -/
abbrev State.FrameAgrees (s : State) : Prop :=
  (s.lrv.rx ≠ .body →
    s.srt.inHand = none ∧ s.acf.job = none ∧ s.acf.held = none ∧ s.rxq.claim = .nothing ∧
      s.lvs.held = none ∧ s.rsp.inputs = none) ∧
  (s.acf.job ≠ none → s.acf.held = none ∧ s.rxq.claim = .nothing ∧ s.lvs.held = none) ∧
  (s.lrv.mode ≠ .framed → s.lrv.rx = .hunt)

/-- The line's times run where the document says: the idle time while LRX is high and no character is
in progress, the low time while LRX is low outside STUCK, the high time in STUCK while LRX is high,
SKIP's count in SKIP; STUCK frames no characters (R18, R32, R33, R34). -/
abbrev State.TimesAgree (s : State) : Prop :=
  s.clc.line = .active →
    (s.lrv.idle.isSome ↔ s.lrx = true ∧ s.lrv.charBusy = false) ∧
    (s.lrv.low.isSome ↔ s.lrx = false ∧ s.lrv.rx ≠ .stuck) ∧
    (s.lrv.high.isSome ↔ s.lrx = true ∧ s.lrv.rx = .stuck) ∧
    (s.lrv.skipIdle.isSome ↔ s.lrv.rx = .skip) ∧
    (s.lrv.rx = .stuck → s.lrv.charBusy = false)

/-- The idle-hold countdown runs exactly while its three conditions hold and IDLE_HOLD is not 0, and
counts from 1 to 255 (R11). -/
abbrev State.IdleHoldAgrees (s : State) : Prop :=
  (s.clc.idleCount.isSome ↔ s.idleHolds = true ∧ s.cfg.idleHold ≠ 0) ∧
  ∀ k ∈ s.clc.idleCount, 1 ≤ k ∧ k ≤ 255

/-- Everything the line, receiver and responder agree on. -/
abbrev State.LineSound (s : State) : Prop :=
  s.LineAgrees ∧ s.ResponseAgrees ∧ s.FrameAgrees ∧ s.TimesAgree ∧ s.IdleHoldAgrees

/-- A command in flight has something to wait for, and a snapshot is in flight only for SNAPSHOT SLOT:
a source command a relation in hand, an entry command a classification, SNAPSHOT SLOT its copy,
SOFT RESET its clear, in DORMANT (R14, R52, R77, R124, R175, R179). -/
abbrev State.CommandWaits (s : State) : Prop :=
  (∀ f ∈ s.cmu.inFlight,
    (f.cmd.isSource = true ∧ s.srt.inHand ≠ none) ∨ (f.cmd.isEntry = true ∧ s.acf.job ≠ none) ∨
    (f.cmd = .snapshotSlot ∧ s.lvs.snap ≠ none) ∨ (f.cmd = .softReset ∧ s.clc.line = .dormant)) ∧
  (s.lvs.snap ≠ none → s.cmu.inFlight.map (·.cmd) = some .snapshotSlot)

/-- Mitigation: RX_THRESHOLD from 1 to 16, no countdown while RX is pending, U below 16 while RX is
clear and at most 341 always, the countdown from 1 to 255 with U at least 1 (R155 to R158). -/
abbrev State.MitigationSound (s : State) : Prop :=
  (1 ≤ s.nwc.rxThreshold ∧ s.nwc.rxThreshold ≤ 16) ∧ s.nwc.rxHoldoff ≤ 255 ∧ s.nwc.u ≤ 341 ∧
  (Flag.rx.isIn s.nwc.flags = true → s.nwc.holdOff = none) ∧
  (Flag.rx.isIn s.nwc.flags = false → s.nwc.u < 16) ∧
  (∀ k ∈ s.nwc.holdOff, 1 ≤ k ∧ k ≤ 255 ∧ 1 ≤ s.nwc.u)

/-- A slot in EMPTY holds nothing; a watched slot is younger than its limit (R114, R118). -/
abbrev Slot.Sound (sl : Slot) : Prop :=
  (sl.state = .empty → sl.content = .zero ∧ sl.unread = 0 ∧ sl.deferred = none) ∧
  (sl.watched = true → sl.age < sl.maxAge) ∧ sl.unread ≤ Config.totalTop

/-- Slots are sound, and only the slot of a snapshot in flight that was not EMPTY has a deferred update
(R114, R125, R126). -/
abbrev State.SlotsSound (s : State) : Prop :=
  (∀ sl ∈ s.lvs.slots, sl.Sound) ∧
  (∀ n < Config.slotCount, (s.lvs.slotAt n).deferred ≠ none → s.lvs.snap = some ⟨n, false⟩) ∧
  (∀ f ∈ s.lvs.snap, f.wasEmpty = false → (s.lvs.slotAt f.slot).state ≠ .empty)

/-- The watermark setting is at most 64, and the arm is clear only while the used bytes are at or above
the level (R106, R107, R108). -/
abbrev State.WatermarkSound (s : State) : Prop :=
  s.rxq.watermark ≤ 64 ∧ (s.rxq.arm = false → belowLevel s.rxq.watermark s.rxq.used = false)

/-- No live counter exceeds 65535 (R183). -/
abbrev State.CountersBounded (s : State) : Prop :=
  ∀ k ∈ Counter.all, s.ctb.live.get k ≤ Config.counterTop

/-- OWN_ADDRESS is 0 or a node's address (R195). -/
abbrev State.OwnAddressHeld (s : State) : Prop := s.cfg.ownAddress.toNat ≤ Config.maxNode

/-- A transaction is served only with CS_N low and no reset in force, reports arrive together with a data
byte written only, and the read positions of QDATA and SDATA lie from 0 to 48 (R100, R128, R188, R193). -/
abbrev State.PortSound (s : State) : Prop :=
  (s.spi.phase ≠ .closed → s.spi.csN = false ∧ s.inReset = false) ∧
  (s.spi.phase ≠ .write → s.spi.late = ⟨0, []⟩) ∧
  s.rxq.readPos ≤ Config.maxPayload ∧ s.lvs.readPos ≤ Config.maxPayload

/-! ### Words the statements share -/

/-- A write transaction is served and the pointer stands at this address (R188, R189). -/
abbrev State.WritesAt (addr : RegAddr) (s : State) : Prop :=
  s.inReset = false ∧ s.spi.phase = .write ∧ s.spi.ptr = addr

/-- A read transaction is served, the pointer stands at this address, and this byte is loaded (R190). -/
abbrev State.ReadsAt (addr : RegAddr) (l : Load) (s : State) : Prop :=
  s.inReset = false ∧ s.spi.phase = .read l ∧ s.spi.ptr = addr

/-- A write to CMD is taken: the data byte is written there and the command unit is IDLE (R171, R189). -/
abbrev State.Takes (s : State) : Prop := s.WritesAt 0x06 ∧ s.cmu.inFlight = none

/-- A completion: the last result record, the return to IDLE, CMD_DONE pending (R174). -/
def State.completed (code : Byte) (r : CmdResult) (s : State) : State :=
  { s with
    cmu := { s.cmu with last := code, result := r, inFlight := none }
    nwc := s.nwc.raise .cmdDone }

/-- The command unit BUSY with this command, argument and parameter captured (R170, R171). -/
def State.busyWith (cmd : Cmd) (s : State) : State :=
  { s with cmu := { s.cmu with inFlight := some ⟨cmd, s.cmu.arg, s.cmu.paramH ++ s.cmu.paramL, 0⟩ } }

/-- The port after a data byte was written: 0x00 on MISO, the pointer at this address, and what arrived with
the byte taken (R189). -/
def State.wrote (next : RegAddr) (s : State) : State :=
  { s with spi := { s.spi with ptr := next, out := 0, late := ⟨0, []⟩ } }

/-- The port after a data byte was read: this byte on MISO, the pointer at this address, and the byte there
loaded (R190). -/
def State.gave (byte : Byte) (next : RegAddr) (s : State) : State :=
  { s with spi := { s.spi with ptr := next, phase := .read (s.loadAt next), out := byte } }

/-- The command unit after the command in flight has completed (R174). -/
def Cmu.ended (cmd : Cmd) (r : CmdResult) (c : Cmu) : Cmu :=
  { c with last := cmd.code, result := r, inFlight := none }

/-- The source table and the command unit where a frame ends and leaves the table so: a source command that
waits takes effect on it and completes, and without one both stand (R51, R52). -/
def State.sourceRun (left : Srt) (s : State) : Srt × Cmu :=
  match s.cmu.inFlight with
  | none => (left, s.cmu)
  | some f =>
    if f.cmd.isSource then
      let e := sourceEffect f.cmd f.arg s.tkg.tickCount left
      (e.1, s.cmu.ended f.cmd e.2)
    else (left, s.cmu)

/-- The filter and the command unit where a classification completes and leaves the filter so: an entry
command that waits takes effect on it and completes, and without one both stand (R77). -/
def State.entryRun (left : Acf) (s : State) : Acf × Cmu :=
  match s.cmu.inFlight with
  | none => (left, s.cmu)
  | some f =>
    if f.cmd.isEntry then
      let e := entryEffect f.cmd f.arg left
      (e.1, s.cmu.ended f.cmd e.2)
    else (left, s.cmu)

/-- The filter and the command unit after the classification in flight, if any, has completed (R68, R77). That
it completes ahead of the loss or the check that ends its frame is the model's reading, where R28 has a
classification still in progress end without a result (notes/assumptions/9.md). -/
def State.classified (s : State) : Acf × Cmu :=
  match s.acf.job with
  | none => (s.acf, s.cmu)
  | some j => s.entryRun { s.acf with job := none, held := some ⟨classify s.cfg s.acf.hash j, false⟩ }

/-- The notification unit after the completion of a command that did or did not wait (R174). -/
def Nwc.doneIf (waited : Bool) (n : Nwc) : Nwc := if waited then n.raise .cmdDone else n

/-- The line receiver after a character has ended with LRX at this level: the low time goes on while it is
low, the idle time runs while it is high (R17, R18, R33). -/
def Lrv.afterCharacter (level : Bool) (l : Lrv) : Lrv :=
  { l with
    charBusy := false
    low := if level then none else some (l.low.getD 0)
    idle := if level then some (l.idle.getD 0) else none }

/-- A character ends that the receiver frames in this receiver state (R17, R36). -/
abbrev State.Framing (rx : RxState) (s : State) : Prop :=
  s.lrv.rx = rx ∧ s.lrv.charBusy = true ∧ s.rsp.state = .idle

/-- The receiver is in BODY, its classification complete (notes/assumptions/9.md), and this byte, arriving
with a good stop bit, is the second check character (R25, R26). -/
abbrev State.AtCheck (s : State) : Prop :=
  s.Framing .body ∧ s.acf.job = none ∧ (headerOf s.lrv.buffer.hdr).length ≤ s.lrv.buffer.payload.length ∧
    s.lrv.buffer.checks = 1

/-- The check passes with this second check character (R19, R26). -/
abbrev State.Commits (b : Byte) (s : State) : Prop := s.AtCheck ∧ crcByte s.lrv.buffer.crc b = 0

/-- The line event ends the frame in BODY (R26, R28). -/
def State.EndsBody (s : State) : FrameEnding → Prop
  | .truncation => s.lrv.rx = .body ∧ s.lrv.idle.isSome = true
  | .entryToStuck =>
    s.clc.line = .active ∧ s.lrv.rx = .body ∧ s.lrv.low.isSome = true ∧ s.lrv.charBusy = false
  | .characterEnd _ stop _ =>
    s.Framing .body ∧
      (stop = false ∨
        ((headerOf s.lrv.buffer.hdr).length ≤ s.lrv.buffer.payload.length ∧ 1 ≤ s.lrv.buffer.checks))

/-- What every block held for the frame in flight is discarded; a classification still in flight has completed
before, and a command that waited for either takes effect and completes; and nothing else that outlasts
a frame has changed but the counts, the flags, the watermark arm, the idle hold, the level of LRX and the
line receiver (R28, R51, R68, R77). That a classification still in flight at the loss or the check is
completed, and does not end without a result, is the model's reading (notes/assumptions/9.md). -/
abbrev State.FrameDropped (s t : State) : Prop :=
  t.srt = (s.sourceRun { s.srt with inHand := none }).1 ∧
  t.acf = { s.classified.1 with job := none, held := none } ∧
  t.cmu = (if s.sourceWaits then (s.sourceRun { s.srt with inHand := none }).2 else s.classified.2) ∧
  (s.sourceWaits = true ∨ s.entryWaits = true ∧ s.acf.job ≠ none → Flag.cmdDone.isIn t.nwc.flags = true) ∧
  t.rxq = { s.rxq with claim := .nothing, arm := t.rxq.arm } ∧
  t.lvs = { s.lvs with held := none } ∧
  t.rsp = { s.rsp with inputs := none } ∧
  t = { s with lrx := t.lrx, clc := { s.clc with idleCount := t.clc.idleCount }, lrv := t.lrv, srt := t.srt,
               acf := t.acf, rxq := t.rxq, lvs := t.lvs, rsp := t.rsp, nwc := t.nwc, cmu := t.cmu,
               ctb := t.ctb }

end Sys2Proof.Machine

namespace Sys2Proof

/-- The commands that write a code to CMD other than SOFT RESET's (R171 to R173). -/
def Instr.writesCmd : Instr → Bool
  | .startLine | .stopLine | .pinSource | .unpinSource | .forgetSource | .forgetUnpinned
  | .readSource | .commitEntry | .clearEntry | .readEntry | .releaseHead | .flushQueue
  | .snapshotSlot | .setSlotWatch | .hostSleep | .hostAwake | .snapshotCounters | .nop => true
  | .unknownCommand code => !Config.commandCodes.contains code
  | _ => false

/-- The address at which a command is a data byte written (Table 82). -/
def Instr.writeAddr (c : Instr) : Option RegAddr :=
  match c with
  | .softReset | .unknownCommand _ => some 0x06
  | .pendingClear high _ => some (if high then 0x0C else 0x0B)
  | .cmdFlagsClear _ => some 0x0A
  | .irqEnWrite high _ => some (if high then 0x0E else 0x0D)
  | .watermarkWrite _ => some 0x33
  | .lockedRegisterWrite reg _ => some (Machine.lockedRegAddr reg)
  | .registerWrite addr _ => some addr
  | _ => if c.writesCmd then some 0x06 else none

/-- The address at which a command is a data byte read (Table 82, Table 83). -/
def Instr.readAddr : Instr → Option RegAddr
  | .tickCountLRead => some 0x1E
  | .qusedLRead => some 0x2D
  | .freshSetLRead => some 0x34
  | .mitCountLRead => some 0x15
  | .qdataRead => some 0x2C
  | .sdataRead => some 0x5E
  | _ => none

/-- SOFT RESET, power-on reset and pin reset. -/
def Instr.isReset : Instr → Bool
  | .softReset | .powerOnReset | .pinReset => true
  | _ => false

/-- The command that a line event which can end a frame is (R28). -/
def FrameEnding.event : FrameEnding → Instr
  | .characterEnd data stop level => .characterEnd data stop level
  | .truncation => .truncation
  | .entryToStuck => .entryToStuck

end Sys2Proof
end

