-- ==== Sys2Proof/WellFormed.lean ====
section
/-! DEFINITION. Which commands are well formed: the three operands that the table's rows limit. -/

namespace Sys2Proof

/-- The command's operands lie in the range its row gives: a slot is one of the sixteen (R113), an
unknown command's code names no command (R173), and REGISTER_WRITE is a write to an address that no
other row writes (R189). Every other operand takes every value of its type. -/
def Instr.wf : Instr → Bool
  | .staleWatchExpiry slot => decide (slot < Config.slotCount)
  | .unknownCommand code => !Config.commandCodes.contains code
  | .registerWrite addr _ => !Config.ownRowAddresses.contains addr
  | .powerOnReset | .pinReset | .resetEnd | .tick | .holdOffExpiry | .idleHoldExpiry
  | .lrxFallingEdge | .settleCompletion | .firstCharacterDecision _ _ | .characterStart
  | .characterEnd _ _ _ | .classificationCompletion | .truncation | .endOfSkip | .huntWatchIdle
  | .entryToStuck | .endOfStuck | .responseWaitEnd | .missingEcho | .copyCompletion
  | .clearCompletion | .deferredSourceCommand _ | .deferredEntryCommand | .startLine | .stopLine
  | .pinSource | .unpinSource | .forgetSource | .forgetUnpinned | .readSource | .commitEntry
  | .clearEntry | .readEntry | .releaseHead | .flushQueue | .snapshotSlot | .setSlotWatch
  | .hostSleep | .hostAwake | .snapshotCounters | .softReset | .nop | .pendingClear _ _
  | .cmdFlagsClear _ | .irqEnWrite _ _ | .watermarkWrite _ | .lockedRegisterWrite _ _
  | .tickCountLRead | .qusedLRead | .freshSetLRead | .mitCountLRead | .qdataRead | .sdataRead
  | .delimiterPattern _ | .lrxRisingEdge | .stuckFallingEdge | .commandByte _ => true

end Sys2Proof
end

