-- ==== Sys2Proof/Certificates/Slice0/Obligations.lean ====
section
/-! DEFINITION. What is claimed of the BD-624, one proposition for each obligation of OBLIGATIONS.json;
a Claim is one part of an obligation that has several. -/

open Sys2Proof Sys2Proof.Machine

/-! ### Steps -/

/-- A step with a command at the front of the queue is that command's effect with the queue's rest. -/
def Obligations.StepRunsFrontCommand : Prop :=
  ∀ (c : Instr) (rest : List Instr) (s : State),
    step { s with pending := c :: rest } = exec c { s with pending := rest }

/-- A step on an empty queue is one LCLK period (R3; that an empty step is one is the model's choice,
notes/assumptions/2.md). -/
def Obligations.EmptyQueueIsOneClockPeriod : Prop :=
  ∀ s : State, s.pending = [] →
    (s.inReset = true → step s = .next s) ∧
    (s.inReset = false → s.tkg.prescale + 1 < 128 * 2 ^ s.cfg.tickShift.toNat →
      step s = .next { s with tkg := { s.tkg with prescale := s.tkg.prescale + 1 } }) ∧
    (s.inReset = false → 128 * 2 ^ s.cfg.tickShift.toNat ≤ s.tkg.prescale + 1 → step s = exec .tick s)

/-- Every command has a next state, and none adds to the queue or removes from it: the queue, and that the
two resets keep it, are the model's choice (notes/assumptions/1.md, notes/assumptions/14.md). -/
def Obligations.EveryCommandHasANextState : Prop :=
  ∀ (c : Instr) (s : State), ∃ t, exec c s = .next t ∧ t.pending = s.pending

/-- An event of the line whose condition does not hold changes nothing (the model's choice,
notes/assumptions/4.md; the edges, notes/assumptions/5.md). -/
def Claim.LineEventsThatCannotOccur : Prop :=
  ∀ s : State,
    (s.lrx = false → exec .lrxFallingEdge s = .next s ∧ exec .characterStart s = .next s ∧
      exec .stuckFallingEdge s = .next s) ∧
    (s.lrx = true → exec .lrxRisingEdge s = .next s) ∧
    (s.clc.line ≠ .rising → exec .settleCompletion s = .next s) ∧
    (s.lrv.rx ≠ .hunt ∨ s.lrv.mode ≠ .deciding → ∀ samples level,
      exec (.firstCharacterDecision samples level) s = .next s) ∧
    (s.lrv.rx ≠ .hunt ∨ s.lrv.mode ≠ .watching → ∀ level, exec (.delimiterPattern level) s = .next s) ∧
    (s.lrv.rx ≠ .hunt ∨ s.lrv.mode ≠ .watching ∨ s.lrv.idle = none → exec .huntWatchIdle s = .next s) ∧
    (s.lrv.charBusy = false → ∀ b stop, exec (.characterEnd b stop false) s = .next s) ∧
    (s.lrv.rx ≠ .header ∧ s.lrv.rx ≠ .body ∨ s.lrv.idle = none → exec .truncation s = .next s) ∧
    (s.lrv.rx ≠ .skip ∨ s.lrv.skipIdle = none ∨ s.lrv.idle = none → exec .endOfSkip s = .next s) ∧
    (s.lrv.rx ≠ .stuck ∨ s.lrv.high = none → exec .endOfStuck s = .next s) ∧
    (s.clc.line ≠ .active ∨ s.lrv.rx = .stuck ∨ s.lrv.low = none ∨ s.lrv.charBusy = true →
      exec .entryToStuck s = .next s) ∧
    (s.rsp.state.code ≠ 1 ∨ s.lrv.rx ≠ .hunt ∨ s.lrv.idle = none → exec .responseWaitEnd s = .next s) ∧
    (s.ltxen = false ∨ s.lrv.charBusy = true → exec .missingEcho s = .next s)

/-- A completion, an expiry or the end of a reset whose condition does not hold changes nothing (the
model's choice, notes/assumptions/4.md; the expiries and the deferred rows, notes/assumptions/7.md and
notes/assumptions/8.md). -/
def Claim.CompletionsThatCannotOccur : Prop :=
  ∀ s : State,
    (s.inReset = false → exec .resetEnd s = .next s) ∧
    (s.acf.job = none → exec .classificationCompletion s = .next s) ∧
    (s.lvs.snap = none → exec .copyCompletion s = .next s) ∧
    (s.cmu.inFlight.map (·.cmd) ≠ some .softReset → exec .clearCompletion s = .next s) ∧
    (∀ n : Nat, (s.inReset = true ∨ ∀ sl, s.lvs.slots[n]? = some sl →
        sl.maxAge = 0 ∨ (sl.state ≠ .fresh ∧ sl.state ≠ .seen) ∨ sl.age + 1 ≠ sl.maxAge) →
      exec (.staleWatchExpiry n) s = .next s) ∧
    (s.inReset = true ∨ s.nwc.holdOff ≠ some 1 → exec .holdOffExpiry s = .next s) ∧
    (s.inReset = true ∨ s.clc.idleCount ≠ some 1 ∨ s.idleHolds = false ∨ s.lrv.charBusy = true →
      exec .idleHoldExpiry s = .next s) ∧
    (s.entryWaits = false ∨ s.acf.job = none → exec .deferredEntryCommand s = .next s) ∧
    (∀ e : FrameEnding, s.sourceWaits = false ∨ (s.lrv.rx ≠ .header ∧ s.lrv.rx ≠ .body) ∨
        (s.lrv.rx = .body ∧ s.rsp.state = .idle ∧ ¬s.EndsBody e) →
      exec (.deferredSourceCommand e) s = .next s)

/-- A data byte takes place only where the port stands at its address in a transaction of its direction, a
command byte only as the first byte of a transaction, and CS_N moves only between its two levels
(R188 to R190; that such a command changes nothing, notes/assumptions/4.md and notes/assumptions/10.md). -/
def Claim.AccessesThatCannotOccur : Prop :=
  ∀ s : State,
    (∀ (c : Instr) (addr : RegAddr), c.writeAddr = some addr → ¬s.WritesAt addr → exec c s = .next s) ∧
    (∀ (c : Instr) (addr : RegAddr), c.readAddr = some addr → (∀ l, ¬s.ReadsAt addr l) →
      exec c s = .next s) ∧
    ((∀ l, s.spi.phase ≠ .read l) → exec (.commandByte .dataRead) s = .next s) ∧
    (s.spi.phase ≠ .write → ∀ late, exec (.commandByte (.arrivals late)) s = .next s) ∧
    ((∀ b, s.spi.phase ≠ .command b) → ∀ b, exec (.commandByte (.command b)) s = .next s) ∧
    (s.spi.csN = false → exec (.commandByte .select) s = .next s) ∧
    (s.spi.csN = true → exec (.commandByte .deselect) s = .next s)

/-- A command for an event that cannot occur in the state changes nothing. -/
def Obligations.EventsThatCannotOccurChangeNothing : Prop :=
  Claim.LineEventsThatCannotOccur ∧ Claim.CompletionsThatCannotOccur ∧ Claim.AccessesThatCannotOccur

/-! ### Resets -/

/-- What power-on and pin reset leave (Tables 15, 26, 32, 41, 45, 55, 64, 71, 75, 78, R192, R193, R200).
That the levels of LRX and CS_N and the waiting commands are kept, and the pointer and output byte of the
port and the CRC that does not run, are the model's (notes/assumptions/14.md). -/
def Claim.ResetSetsEveryBlock : Prop :=
  ∀ s : State, ∃ t, exec .powerOnReset s = .next t ∧ exec .pinReset s = .next t ∧
    t.inReset = true ∧ t.lrx = s.lrx ∧ t.pending = s.pending ∧
    t.cfg = ⟨0, 1, .closed, false, 3, 1, 8⟩ ∧
    t.tkg = ⟨0, 0, 0⟩ ∧
    t.clc = ⟨.dormant, none, none⟩ ∧ t.oscillatorOn = false ∧
    (t.lrv.rx = .off ∧ t.lrv.mode = .framed ∧ t.lrv.charBusy = false ∧ t.lrv.buffer.hdr = [] ∧
      t.lrv.buffer.payload = [] ∧ t.lrv.idle = none ∧ t.lrv.low = none ∧ t.lrv.high = none ∧
      t.lrv.skipIdle = none ∧ t.lrv = .off) ∧
    t.srt = ⟨[], none, none⟩ ∧
    (t.acf.table = List.replicate 32 ⟨false, 0, 0, none, .publish, .queue, none, false, 0⟩ ∧
      t.acf.staging = ⟨false, 0, 0, 0, 0, .queue, 0, false, 0⟩ ∧ t.acf.hash = List.replicate 64 0 ∧
      t.acf.job = none ∧ t.acf.held = none) ∧
    t.rxq = ⟨[], .nothing, 0, 0, true, 0, 0, 0⟩ ∧ t.rxq.used = 0 ∧ t.rxq.free = 4096 ∧
    (t.lvs.slots = List.replicate 16 ⟨.empty, ⟨0, 0, 0, 0, [], 0⟩, 0, 0, 0, none⟩ ∧ t.lvs.held = none ∧
      t.lvs.snap = none ∧ t.lvs.winValid = false ∧ t.lvs.window = .zero ∧ t.lvs.readPos = 0 ∧
      t.lvs.capFresh = 0 ∧ t.lvs.capStale = 0) ∧
    t.rsp = ⟨.idle, none⟩ ∧ t.ltxen = false ∧ (∀ bit, t.ltx bit = true) ∧
    t.nwc = ⟨0, 0, 0, .awake, 0, 0, none, 1, 0, 0⟩ ∧ t.irqN = true ∧ t.wakePin = false ∧
    t.cmu = ⟨0, 0, 0, none, 0, .ok, 0, false, false⟩ ∧
    (∀ k ∈ Counter.all, t.ctb.live.get k = 0 ∧ t.ctb.snap.get k = 0) ∧
    t.spi = ⟨s.spi.csN, 0, .closed, 0, 0, ⟨0, []⟩⟩ ∧ t.miso = none ∧ t.statusL = 0 ∧ t.statusH = 1

/-- While a reset is in force no tick occurs and the port is not served: of its events only the level of
CS_N is followed, so that a transaction begun then is not served after it; its end changes no block
(R193, R199; notes/assumptions/15.md). -/
def Claim.ResetHoldsThePart : Prop :=
  ∀ s : State,
    exec .resetEnd s = .next { s with inReset := false } ∧
    (s.inReset = true →
      exec .tick s = .next s ∧ s.miso = none ∧
      (∀ c : Instr, c.writeAddr ≠ none ∨ c.readAddr ≠ none → exec c s = .next s) ∧
      (∀ b, exec (.commandByte (.command b)) s = .next s) ∧ exec (.commandByte .dataRead) s = .next s ∧
      (∀ late, exec (.commandByte (.arrivals late)) s = .next s) ∧
      (s.spi.csN = true →
        exec (.commandByte .select) s = .next { s with spi := { s.spi with csN := false, phase := .closed } }) ∧
      (s.spi.csN = false →
        exec (.commandByte .deselect) s = .next { s with spi := { s.spi with
          csN := true, phase := .closed, late := ⟨0, []⟩ } }))

/-- What a reset sets, what it holds back, and its end. -/
def Obligations.ResetSetsAndHoldsThePart : Prop :=
  Claim.ResetSetsEveryBlock ∧ Claim.ResetHoldsThePart

/-! ### Ticks -/

/-- A tick returns the prescale count to 0 and increases the tick count by 1, modulo 65536; at the
notification unit it sets STALE when a slot expires and then counts the hold-off down, which sets RX at 0;
where the idle hold does not run, the line and its receiver stand; and it touches neither the queue, the
tables, the command unit, the counters nor the port (R3, R4, R11, R118, R158). -/
def Claim.TickCounts : Prop :=
  ∀ s : State, s.inReset = false →
    let expires := fun sl : Slot =>
      sl.maxAge ≠ 0 ∧ (sl.state = .fresh ∨ sl.state = .seen) ∧ sl.age + 1 = sl.maxAge
    let counted := fun n : Nwc =>
      match n.holdOff with
      | none => n
      | some k => if k ≤ 1 then { n with holdOff := none }.raise .rx else { n with holdOff := some (k - 1) }
    ∃ t, exec .tick s = .next t ∧ t.tkg = ⟨0, s.tkg.tickCount + 1, s.tkg.capture⟩ ∧
      ((∃ sl ∈ s.lvs.slots, expires sl) → t.nwc = counted (s.nwc.raise .stale)) ∧
      ((∀ sl ∈ s.lvs.slots, ¬expires sl) → t.nwc = counted s.nwc) ∧
      (s.idleHolds = false ∨ s.lrv.charBusy = true ∨ s.clc.idleCount = none →
        t.clc = s.clc ∧ t.lrv = s.lrv) ∧
      t = { s with tkg := t.tkg, clc := t.clc, lrv := t.lrv, lvs := t.lvs, nwc := t.nwc }

/-- The stale watch at a tick, slot by slot (R118): a slot in FRESH or SEEN with a limit ages, and is
STALE at its limit; no other slot changes; STALE becomes pending when a slot expires, and only then. -/
def Claim.TickAgesWatchedSlots : Prop :=
  ∀ s : State, s.inReset = false →
    ∃ t, exec .tick s = .next t ∧ t.lvs = { s.lvs with slots := t.lvs.slots } ∧
      t.lvs.slots.length = s.lvs.slots.length ∧
      (∀ (n : Nat) (sl : Slot), s.lvs.slots[n]? = some sl →
        t.lvs.slots[n]? = some
          (if sl.maxAge ≠ 0 ∧ (sl.state = .fresh ∨ sl.state = .seen) then
            { sl with age := sl.age + 1, state := if sl.age + 1 = sl.maxAge then .stale else sl.state }
           else sl)) ∧
      (Flag.stale.isIn t.nwc.flags = true ↔
        Flag.stale.isIn s.nwc.flags = true ∨
          ∃ sl ∈ s.lvs.slots, sl.maxAge ≠ 0 ∧ (sl.state = .fresh ∨ sl.state = .seen) ∧
            sl.age + 1 = sl.maxAge)

/-- A slot's stale-watch expiry is the tick at which its age reaches max_age (R118;
notes/assumptions/7.md). -/
def Claim.StaleWatchExpires : Prop :=
  ∀ (s : State) (n : Nat) (sl : Slot), s.inReset = false → s.lvs.slots[n]? = some sl →
    sl.maxAge ≠ 0 → (sl.state = .fresh ∨ sl.state = .seen) → sl.age + 1 = sl.maxAge →
    ∃ t, exec (.staleWatchExpiry n) s = .next t ∧ exec .tick s = .next t ∧
      t.lvs.slots[n]? = some { sl with state := .stale, age := sl.maxAge } ∧
      Flag.stale.isIn t.nwc.flags = true

/-- A tick: the counts, the slots' stale watch, and a slot's expiry. -/
def Obligations.TickCountsAndAgesSlots : Prop :=
  Claim.TickCounts ∧ Claim.TickAgesWatchedSlots ∧ Claim.StaleWatchExpires

/-- The hold-off countdown at a tick (R158): it counts down, at 0 RX becomes pending and it stops, U
unchanged; stopped, ticks do not act on it. -/
def Claim.HoldOffCountsDown : Prop :=
  ∀ s : State, s.inReset = false →
    (∀ k, s.nwc.holdOff = some k → 1 < k →
      ∃ t, exec .tick s = .next t ∧ t.nwc.holdOff = some (k - 1) ∧ t.nwc.u = s.nwc.u ∧
        Flag.rx.isIn t.nwc.flags = Flag.rx.isIn s.nwc.flags) ∧
    (s.nwc.holdOff = none →
      ∃ t, exec .tick s = .next t ∧ t.nwc.holdOff = none ∧ t.nwc.u = s.nwc.u ∧
        Flag.rx.isIn t.nwc.flags = Flag.rx.isIn s.nwc.flags) ∧
    (s.nwc.holdOff = some 1 →
      ∃ t, exec .holdOffExpiry s = .next t ∧ exec .tick s = .next t ∧ t.nwc.holdOff = none ∧
        t.nwc.u = s.nwc.u ∧ Flag.rx.isIn t.nwc.flags = true)

/-- The idle hold at a tick (R11, R12): it stands still during a character, counts down otherwise, and at
0 the line goes to LISTEN, or on to RISING with LRX low, the receiver stopped. -/
def Claim.IdleHoldExpires : Prop :=
  ∀ s : State, s.inReset = false → s.idleHolds = true → ∀ k, s.clc.idleCount = some k →
    (s.lrv.charBusy = true → ∃ t, exec .tick s = .next t ∧ t.clc = s.clc ∧ t.lrv = s.lrv) ∧
    (s.lrv.charBusy = false → 1 < k →
      ∃ t, exec .tick s = .next t ∧ t.clc = { s.clc with idleCount := some (k - 1) } ∧ t.lrv = s.lrv) ∧
    (s.lrv.charBusy = false → k = 1 →
      ∃ t, exec .idleHoldExpiry s = .next t ∧ exec .tick s = .next t ∧ t.lrv.rx = .off ∧
        t.clc.idleCount = none ∧
        (s.lrx = true → t.clc.line = .listen ∧ t.clc.settle = none ∧ t.oscillatorOn = false) ∧
        (s.lrx = false → t.clc.line = .rising ∧ t.clc.settle = some (256 * 2 ^ s.cfg.settleSel.toNat)))

/-- The two countdowns at a tick, and their expiries. -/
def Obligations.CountdownsRunAtTicks : Prop :=
  Claim.HoldOffCountsDown ∧ Claim.IdleHoldExpires

/-! ### Edges and the start of reception -/

/-- A falling edge in LISTEN takes the line to RISING with the settle count of Table 9; in DORMANT and
RISING it has no effect but the level itself (R2, R7, R8). -/
def Claim.FallingEdgeInListen : Prop :=
  ∀ s : State, s.lrx = true →
    (s.clc.line = .listen →
      exec .lrxFallingEdge s = .next { s with
        lrx := false
        clc := ⟨.rising, some (256 * 2 ^ s.cfg.settleSel.toNat), none⟩ }) ∧
    (s.clc.line = .dormant ∨ s.clc.line = .rising →
      exec .lrxFallingEdge s = .next { s with lrx := false })

/-- Settle completion: ACTIVE, the receiver in HUNT with the first-character decision open, times afresh,
the idle hold loaded (R8, R9, R11, R18, R33). The CRC, which does not run, holds 0xFFFF by the model's
choice (notes/assumptions/14.md). -/
def Claim.SettleCompletionOpensTheDecision : Prop :=
  ∀ s : State, s.clc.line = .rising → s.rsp.state = .idle →
    exec .settleCompletion s = .next { s with
      clc := ⟨.active, none, if s.cfg.idleHold = 0 then none else some s.cfg.idleHold.toNat⟩
      lrv := ⟨.hunt, .decisionOpen, false, if s.lrx then some 0 else none,
        if s.lrx then none else some 0, none, none, ⟨[], [], 0, 0xFFFF⟩⟩ }

/-- From LISTEN to ACTIVE. -/
def Obligations.WakeFromListen : Prop :=
  Claim.FallingEdgeInListen ∧ Claim.SettleCompletionOpensTheDecision

/-- The first-character decision (R9, R15): the alternating samples of a preamble character keep HUNT and
begin the watch, the delimiter's samples begin a frame, and anything else is SKIP, MISSED_RISING counted; so
are ten bit times that run into the delimiter or begin after it has started, whatever their samples. That
they are so too where the samples are those of a preamble character or the delimiter is the model's choice
between the cases of R9 (notes/assumptions/26.md). That the delimiter's character has ended at
entry to HEADER is the model's reading (notes/assumptions/16.md). -/
def Claim.FirstCharacterDecides : Prop :=
  ∀ (s : State) (samples : TenBits) (level : Bool), s.lrv.rx = .hunt → s.lrv.mode = .deciding →
    ∃ t, exec (.firstCharacterDecision samples level) s = .next t ∧ t.lrx = level ∧
      (samples.place = .clear → samples.bits = 0b1010101010 →
        t.lrv.rx = .hunt ∧ t.lrv.mode = .watching ∧ t.ctb = s.ctb ∧ t.nwc = s.nwc) ∧
      (samples.place = .clear → samples.bits = 0b1110001010 →
        t.lrv.rx = .header ∧ t.lrv.mode = .framed ∧ t.lrv.charBusy = false ∧
          t.lrv.buffer = ⟨[], [], 0, 0xFFFF⟩ ∧ t.ctb = s.ctb ∧ t.nwc = s.nwc) ∧
      (samples.place ≠ .clear ∨ (samples.bits ≠ 0b1010101010 ∧ samples.bits ≠ 0b1110001010) →
        t.lrv.rx = .skip ∧ t.lrv.skipIdle = some 0 ∧
          t.ctb.live.get .missedRising = min 65535 (s.ctb.live.get .missedRising + 1)) ∧
      t = { s with lrx := t.lrx, clc := t.clc, lrv := t.lrv, nwc := t.nwc, ctb := t.ctb }

/-- The watched bit stream (R22): the delimiter's pattern begins a frame; two character times of idle end
the watch with no count. That the delimiter's character has ended at entry to HEADER is the model's
reading (notes/assumptions/16.md). -/
def Claim.WatchFindsDelimiterOrEnds : Prop :=
  ∀ s : State, s.lrv.rx = .hunt → s.lrv.mode = .watching →
    (∀ level : Bool, ∃ t, exec (.delimiterPattern level) s = .next t ∧ t.lrx = level ∧
      t.lrv.rx = .header ∧ t.lrv.mode = .framed ∧ t.lrv.charBusy = false ∧
      t.lrv.buffer = ⟨[], [], 0, 0xFFFF⟩ ∧ t = { s with lrx := t.lrx, clc := t.clc, lrv := t.lrv }) ∧
    (s.lrv.idle.isSome = true →
      exec .huntWatchIdle s = .next { s with lrv := { s.lrv with mode := .framed, idle := some 2 } })

/-- The first-character decision and the watch that follows a preamble. -/
def Obligations.FirstCharacterFindsTheFrame : Prop :=
  Claim.FirstCharacterDecides ∧ Claim.WatchFindsDelimiterOrEnds

/-- A character start (R17, R18, R32, R33, R138), with no character in progress, or, while the decision is
open or the watch is on, in the place of the one in progress (R22): the character is in progress, the idle
time returns to zero and SKIP's with it, the low time starts; a response that waits is abandoned and counted
once; the open first-character decision begins its ten bit times (R9). -/
def Obligations.CharacterStarts : Prop :=
  ∀ s : State, s.clc.line = .active → s.lrx = true → s.lrv.rx ≠ .stuck →
    s.lrv.charBusy = false ∨ s.lrv.mode ≠ .framed →
    ∃ t, exec .characterStart s = .next t ∧ t.lrx = false ∧
      t.lrv = { s.lrv with
        charBusy := true
        idle := none
        low := some 0
        skipIdle := s.lrv.skipIdle.map fun _ => 0
        mode := if s.lrv.mode = .decisionOpen then .deciding else s.lrv.mode } ∧
      (∀ chars, s.rsp.state = .waiting chars →
        t.rsp = { s.rsp with state := .idle } ∧
          t.ctb.live.get .responseAborts = min 65535 (s.ctb.live.get .responseAborts + 1)) ∧
      (s.rsp.state.code ≠ 1 → t.rsp = s.rsp ∧ t.ctb = s.ctb ∧ t.nwc = s.nwc) ∧
      (t.idleHolds = true →
        t.clc.idleCount = if s.cfg.idleHold = 0 then none else some s.cfg.idleHold.toNat) ∧
      (t.idleHolds = false → t.clc.idleCount = none) ∧
      t = { s with lrx := t.lrx, clc := { s.clc with idleCount := t.clc.idleCount }, lrv := t.lrv,
                   rsp := t.rsp, nwc := t.nwc, ctb := t.ctb }

/-- The edges in ACTIVE that start no character (R18, R33, R34): in STUCK a falling edge returns the high
time to zero; inside a framed character it starts the low time; a rising edge ends the low time, lets the
idle time run outside a character, and in STUCK starts the high time. -/
def Claim.EdgesInActiveMoveTheTimes : Prop :=
  ∀ s : State, s.clc.line = .active →
    (s.lrx = true → s.lrv.rx = .stuck →
      exec .stuckFallingEdge s = .next { s with lrx := false, lrv := { s.lrv with high := none, idle := none } }) ∧
    (s.lrx = true → s.lrv.rx ≠ .stuck → s.lrv.charBusy = true → s.lrv.mode = .framed →
      exec .stuckFallingEdge s = .next { s with lrx := false, lrv := { s.lrv with low := some 0 } }) ∧
    (s.lrx = false →
      exec .lrxRisingEdge s = .next { s with
        lrx := true
        lrv := { s.lrv with
          low := none
          idle := if s.lrv.charBusy then none else some 0
          high := if s.lrv.rx = .stuck then some 0 else none } })

/-- A rising edge outside ACTIVE, where the line's times do not run, moves only the level (R2, R18, R21). The
end of a character with none in progress and LRX high again is the rising edge of LRX, by the model's choice
(notes/assumptions/6.md). -/
def Claim.OtherRisingEdges : Prop :=
  ∀ s : State,
    (s.clc.line ≠ .active → s.lrx = false → exec .lrxRisingEdge s = .next { s with lrx := true }) ∧
    (s.lrv.charBusy = false → ∀ b stop, exec (.characterEnd b stop true) s = exec .lrxRisingEdge s)

/-- The edges that start no character. -/
def Obligations.EdgesMoveTheLineTimes : Prop :=
  Claim.EdgesInActiveMoveTheTimes ∧ Claim.OtherRisingEdges

/-! ### Characters and frames -/

/-- The CRC of R19: a sequence followed by its own two check bytes, high byte first, leaves 0; the
reference value. -/
def Obligations.CrcOfBytesAndCheckIsZero : Prop :=
  (∀ bytes : List Byte,
    crcOf (bytes ++ [(crcOf bytes).extractLsb' 8 8, (crcOf bytes).extractLsb' 0 8]) = 0) ∧
  crcOf [] = 0xFFFF ∧
  crcOf [0x31, 0x32, 0x33, 0x34, 0x35, 0x36, 0x37, 0x38, 0x39] = 0x29B1

/-- The header fields in the six bytes (R196, Table 81), and which headers are valid (R20, Table 20). -/
def Obligations.HeaderLayoutAndValidity : Prop :=
  ∀ b1 b2 b3 b4 b5 b6 : Byte,
    let h := headerOf [b1, b2, b3, b4, b5, b6]
    h.dest = b1 ∧ h.source = b2 ∧ h.length = b6.toNat ∧
      h.seq.toNat = b3.toNat % 64 ∧ h.format.toNat = b4.toNat / 16 ∧
      h.topic.toNat = 256 * (b4.toNat % 16) + b5.toNat ∧
      (b3.toNat / 64 = 0 → h.kind = .publish) ∧ (b3.toNat / 64 = 1 → h.kind = .send) ∧
      (b3.toNat / 64 = 2 → h.kind = .response) ∧ (b3.toNat / 64 = 3 → h.kind = .fourth) ∧
      (h.valid = false ↔
        h.kind = .fourth ∨ h.source = 0 ∨ 248 ≤ h.source.toNat ∨ 248 ≤ h.dest.toNat ∨
          (h.kind = .publish ∧ h.dest ≠ 0) ∨ ((h.kind = .send ∨ h.kind = .response) ∧ h.dest = 0) ∨
          49 ≤ h.length)

/-- A character framed in HUNT (R22): a preamble character is skipped, the delimiter begins a frame, any
other leads to SKIP, and nothing is counted. -/
def Obligations.CharacterInHunt : Prop :=
  ∀ (s : State) (b : Byte) (stop level : Bool), s.Framing .hunt → s.lrv.mode = .framed →
    ∃ t, exec (.characterEnd b stop level) s = .next t ∧ t.lrx = level ∧ t.lrv.charBusy = false ∧
      t.lrv.idle.isSome = level ∧ t.lrv.low.isSome = !level ∧
      (stop = true ∧ b = 0x55 → t.lrv.rx = .hunt) ∧
      (stop = true ∧ b = 0xC5 → t.lrv.rx = .header ∧ t.lrv.buffer = ⟨[], [], 0, 0xFFFF⟩) ∧
      (stop = false ∨ (b ≠ 0x55 ∧ b ≠ 0xC5) → t.lrv.rx = .skip ∧ t.lrv.skipIdle = some 0) ∧
      t = { s with lrx := t.lrx, clc := { s.clc with idleCount := t.clc.idleCount }, lrv := t.lrv }

/-- A header byte before the sixth is kept and fed to the CRC (R23). -/
def Claim.HeaderByteIsKept : Prop :=
  ∀ (s : State) (b : Byte) (level : Bool), s.Framing .header → s.lrv.buffer.hdr.length < 5 →
    exec (.characterEnd b true level) s = .next { s with
      lrx := level
      clc := { s.clc with idleCount := none }
      lrv := { s.lrv.afterCharacter level with
        buffer := { s.lrv.buffer with
          hdr := s.lrv.buffer.hdr ++ [b], crc := crcByte s.lrv.buffer.crc b } } }

/-- Header completion of an invalid or a foreign header: the sixth byte joins the header and the CRC, the
header is counted, SKIP, and no other block receives anything (R23, R24). -/
def Claim.BadHeaderIsSkipped : Prop :=
  ∀ (s : State) (b : Byte) (level : Bool), s.Framing .header → s.lrv.buffer.hdr.length = 5 →
    let h := headerOf (s.lrv.buffer.hdr ++ [b])
    (h.valid = false ∨ h.format ≠ 0) →
    ∃ t, exec (.characterEnd b true level) s = .next t ∧
      t.lrv = { s.lrv.afterCharacter level with
        rx := .skip
        mode := .framed
        skipIdle := some 0
        buffer := { s.lrv.buffer with
          hdr := s.lrv.buffer.hdr ++ [b], crc := crcByte s.lrv.buffer.crc b } } ∧
      (h.valid = false →
        t.ctb.live.get .headerErrors = min 65535 (s.ctb.live.get .headerErrors + 1) ∧
          t.ctb.live.get .foreign = s.ctb.live.get .foreign) ∧
      (h.valid = true →
        t.ctb.live.get .foreign = min 65535 (s.ctb.live.get .foreign + 1) ∧
          t.ctb.live.get .headerErrors = s.ctb.live.get .headerErrors) ∧
      t = { s with lrx := level, clc := { s.clc with idleCount := none }, lrv := t.lrv, nwc := t.nwc, ctb := t.ctb }

/-- Header completion of a valid header of format 0 (R23, R24, R42, R45, R65, R134, Table 23, Table 57): the
sixth byte joins the header and the CRC, BODY, and each block receives what kind and destination give it. -/
def Claim.GoodHeaderIsHandedOn : Prop :=
  ∀ (s : State) (b : Byte) (level : Bool), s.Framing .header → s.lrv.buffer.hdr.length = 5 →
    let h := headerOf (s.lrv.buffer.hdr ++ [b])
    h.valid = true → h.format = 0 →
    let toPart := decide (h.kind = .send ∧ h.dest = s.cfg.ownAddress)
    let rel := relationOf s.srt.table h.source h.seq toPart
    ∃ t, exec (.characterEnd b true level) s = .next t ∧
      t.lrv = { s.lrv.afterCharacter level with
        rx := .body
        buffer := { s.lrv.buffer with
          hdr := s.lrv.buffer.hdr ++ [b], crc := crcByte s.lrv.buffer.crc b } } ∧
      (h.kind = .publish ∨ h.kind = .send →
        t.srt = { s.srt with inHand := some ⟨h.source, h.seq, h.kind, h.dest, toPart, rel⟩ }) ∧
      (h.kind = .response → t.srt = s.srt) ∧
      ((h.kind = .publish ∨ toPart = true) ∧ rel ≠ .duplicate →
        t.acf = { s.acf with job := some ⟨h, rel, searchFrom h 0 s.acf.table⟩ }) ∧
      (¬((h.kind = .publish ∨ toPart = true) ∧ rel ≠ .duplicate) → t.acf = s.acf) ∧
      (toPart = true →
        t.rsp = { s.rsp with
          inputs := some ⟨h.source, h.seq,
            (match rel with
             | .duplicate => .duplicate
             | .untracked => .untracked
             | .first | .next | .gap _ | .resync | .retry => .tracked),
            if rel = .duplicate then (sourceEntry s.srt.table h.source).bind (·.lastVerdict) else none,
            none, none⟩ }) ∧
      (toPart = false → t.rsp = s.rsp) ∧
      t = { s with lrx := level, clc := { s.clc with idleCount := none }, lrv := t.lrv, srt := t.srt,
                   acf := t.acf, rsp := t.rsp }

/-- Header completion: invalid, foreign, or handed on. -/
def Obligations.HeaderCompletionHasThreeOutcomes : Prop :=
  Claim.BadHeaderIsSkipped ∧ Claim.GoodHeaderIsHandedOn

/-- A character of BODY before the second check character (R25): a payload byte is kept, a check
character only feeds the CRC. The classification has completed before (R68; notes/assumptions/9.md). -/
def Claim.BodyByteIsKept : Prop :=
  ∀ (s : State) (b : Byte) (level : Bool), s.Framing .body → s.acf.job = none →
    let buf := s.lrv.buffer
    let kept := fun buffer : FrameBuffer => exec (.characterEnd b true level) s = .next { s with
      lrx := level
      clc := { s.clc with idleCount := none }
      lrv := { s.lrv.afterCharacter level with buffer := buffer } }
    (buf.payload.length < (headerOf buf.hdr).length →
      kept { buf with payload := buf.payload ++ [b], crc := crcByte buf.crc b }) ∧
    ((headerOf buf.hdr).length ≤ buf.payload.length → buf.checks = 0 →
      kept { buf with checks := 1, crc := crcByte buf.crc b })

/-- The bytes of a frame before its header completion and its check completion. -/
def Obligations.BytesOfAFrameAreKept : Prop :=
  Claim.HeaderByteIsKept ∧ Claim.BodyByteIsKept

/-- A low stop bit in HEADER or BODY (R30): FRAMING_ERRORS, the frame dropped, SKIP. A classification still in
flight is completed before (the model's reading, notes/assumptions/9.md). -/
def Claim.FramingErrorDropsTheFrame : Prop :=
  ∀ (s : State) (b : Byte) (level : Bool), s.Framing .header ∨ s.Framing .body →
    ∃ t, exec (.characterEnd b false level) s = .next t ∧ t.lrv.rx = .skip ∧ t.lrv.skipIdle = some 0 ∧
      t.clc.idleCount = none ∧
      t.ctb.live.get .framingErrors = min 65535 (s.ctb.live.get .framingErrors + 1) ∧
      State.FrameDropped s t

/-- Two character times of idle in HEADER or BODY (R31): TRUNCATED, the frame dropped, SKIP. A classification
still in flight is completed before (the model's reading, notes/assumptions/9.md). -/
def Claim.TruncationDropsTheFrame : Prop :=
  ∀ s : State, s.lrv.rx = .header ∨ s.lrv.rx = .body → s.lrv.idle.isSome = true →
    ∃ t, exec .truncation s = .next t ∧ t.lrv.rx = .skip ∧ t.lrv.skipIdle = some 0 ∧
      t.clc.idleCount = none ∧
      t.ctb.live.get .truncated = min 65535 (s.ctb.live.get .truncated + 1) ∧ State.FrameDropped s t

/-- Check completion with a check that fails (R26): CHECK_ERRORS, the frame dropped, HUNT with the
alignment kept, the idle hold loaded (R11). The classification has completed before (the model's reading,
notes/assumptions/9.md). -/
def Claim.FailedCheckDropsTheFrame : Prop :=
  ∀ (s : State) (b : Byte) (level : Bool), s.AtCheck → crcByte s.lrv.buffer.crc b ≠ 0 →
    ∃ t, exec (.characterEnd b true level) s = .next t ∧ t.lrv.rx = .hunt ∧ t.lrv.mode = .framed ∧
      (s.clc.line = .active → s.clc.idleCount = none →
        t.clc.idleCount = if s.cfg.idleHold = 0 then none else some s.cfg.idleHold.toNat) ∧
      t.ctb.live.get .checkErrors = min 65535 (s.ctb.live.get .checkErrors + 1) ∧ State.FrameDropped s t

/-- The three counted ways of losing a frame. -/
def Obligations.LostFrameIsDropped : Prop :=
  Claim.FramingErrorDropsTheFrame ∧ Claim.TruncationDropsTheFrame ∧ Claim.FailedCheckDropsTheFrame

/-- Characters in SKIP are ignored; two character times of idle within SKIP end it, and the idle hold is
loaded (R11, R32). -/
def Claim.SkipIgnoresAndEnds : Prop :=
  (∀ (s : State) (b : Byte) (stop level : Bool), s.Framing .skip →
    ∃ t, exec (.characterEnd b stop level) s = .next t ∧ t.lrv.rx = .skip ∧
      t = { s with lrx := level, clc := { s.clc with idleCount := none }, lrv := t.lrv }) ∧
  (∀ s : State, s.lrv.rx = .skip → s.lrv.skipIdle.isSome = true → s.lrv.idle.isSome = true →
    ∃ t, exec .endOfSkip s = .next t ∧ t.lrv.rx = .hunt ∧ t.lrv.mode = .framed ∧ t.lrv.skipIdle = none ∧
      (s.clc.line = .active → s.rsp.state = .idle → s.clc.idleCount = none →
        t.clc.idleCount = if s.cfg.idleHold = 0 then none else some s.cfg.idleHold.toNat) ∧
      t = { s with clc := { s.clc with idleCount := t.clc.idleCount }, lrv := t.lrv })

/-- Entry to STUCK after 32 character times low: a frame in flight dropped, LINE_FAULT, no count (R33,
R37); after four character times high STUCK ends in HUNT with LINE_RECOVER (R34). That a classification still
in flight is completed before the frame is dropped is the model's reading (notes/assumptions/9.md), and so
is that no entry comes with a character in progress (notes/assumptions/18.md). -/
def Claim.StuckLineIsEnteredAndLeft : Prop :=
  (∀ s : State, s.clc.line = .active → s.lrv.rx ≠ .stuck → s.lrv.low.isSome = true →
    s.lrv.charBusy = false →
    ∃ t, exec .entryToStuck s = .next t ∧ t.lrv.rx = .stuck ∧ t.lrv.low = none ∧ t.lrv.high = none ∧
      t.clc.idleCount = none ∧
      Flag.lineFault.isIn t.nwc.flags = true ∧ t.ctb = s.ctb ∧
      (s.lrv.rx = .header ∨ s.lrv.rx = .body → State.FrameDropped s t) ∧
      (s.lrv.rx ≠ .header → s.lrv.rx ≠ .body →
        t = { s with clc := { s.clc with idleCount := none }, lrv := t.lrv, nwc := s.nwc.raise .lineFault })) ∧
  (∀ s : State, s.lrv.rx = .stuck → s.lrv.high.isSome = true →
    ∃ t, exec .endOfStuck s = .next t ∧ t.lrv.rx = .hunt ∧ t.lrv.mode = .framed ∧ t.lrv.high = none ∧
      t.nwc = s.nwc.raise .lineRecover ∧
      (s.clc.line = .active → s.rsp.state = .idle → s.clc.idleCount = none →
        t.clc.idleCount = if s.cfg.idleHold = 0 then none else some s.cfg.idleHold.toNat) ∧
      t = { s with clc := { s.clc with idleCount := t.clc.idleCount }, lrv := t.lrv, nwc := t.nwc })

/-- SKIP and STUCK, entered and left. -/
def Obligations.SkipAndStuckEnd : Prop :=
  Claim.SkipIgnoresAndEnds ∧ Claim.StuckLineIsEnteredAndLeft

/-! ### Sources -/

/-- The relation of a frame to its source's history (R43, with R44 for d = 0). -/
def Obligations.RelationOfAFrame : Prop :=
  ∀ (table : List SourceEntry) (source : Byte) (seq : Seq) (toPart : Bool),
    let r := relationOf table source seq toPart
    (sourceEntry table source = none →
      (table.length < 24 ∨ (∃ e ∈ table, e.pinned = false) → r = .first) ∧
      (24 ≤ table.length → (∀ e ∈ table, e.pinned = true) → r = .untracked)) ∧
    (∀ e, sourceEntry table source = some e →
      (e.lastSeq = none → r = .first) ∧
      (∀ last, e.lastSeq = some last →
        let d := (seq.toNat + 64 - last.toNat) % 64
        (d = 1 → r = .next) ∧ (2 ≤ d ∧ d ≤ 32 → r = .gap (d - 1)) ∧ (33 ≤ d → r = .resync) ∧
        (d = 0 → toPart = true → e.lastVerdict ≠ some .accept → r = .retry) ∧
        (d = 0 → toPart = false ∨ e.lastVerdict = some .accept → r = .duplicate)))

/-- The source tracker at frame commit (R46 to R50): UNTRACKED changes nothing; an entry moves to the
front with its new sequence, verdict, totals and stamp; a new source gets an entry at the front, the
unpinned entry nearest the end leaving a full table; and each relation is counted and reported. A source
command that waited then takes effect on the table so left (R51). -/
def Obligations.CommitUpdatesTheSource : Prop :=
  ∀ (s : State) (b : Byte) (level : Bool) (r : InHand), s.Commits b → s.srt.inHand = some r →
    let fixed := s.rsp.inputs.bind fixVerdict
    let stamp := s.tkg.tickCount
    let left := s.srt.commit fixed stamp
    left.inHand = none ∧ left.window = s.srt.window ∧
    (r.relation = .untracked → left.table = s.srt.table) ∧
    (∀ e, sourceEntry s.srt.table r.source = some e → r.relation ≠ .untracked →
      left.table =
        { e with
          lastSeq := some r.seq
          lastVerdict := if r.relation = .duplicate then e.lastVerdict else if r.toPart then fixed else none
          gapTotal := match r.relation with
            | .gap n => min 255 (e.gapTotal + n)
            | _ => e.gapTotal
          dupTotal := if r.relation = .duplicate then min 255 (e.dupTotal + 1) else e.dupTotal
          heard := stamp } :: s.srt.table.eraseP (·.addr == r.source)) ∧
    (sourceEntry s.srt.table r.source = none → r.relation = .first →
      let new : SourceEntry := ⟨r.source, some r.seq, if r.toPart then fixed else none, false, 0, 0, stamp⟩
      (s.srt.table.length < 24 → left.table = new :: s.srt.table) ∧
      (24 ≤ s.srt.table.length → ∀ before v after, s.srt.table = before ++ v :: after →
        v.pinned = false → (∀ e ∈ after, e.pinned = true) → left.table = new :: (before ++ after))) ∧
    ∃ t, exec (.characterEnd b true level) s = .next t ∧ (t.srt, t.cmu) = s.sourceRun left ∧
      (s.sourceWaits = true → Flag.cmdDone.isIn t.nwc.flags = true) ∧
      (∀ n, r.relation = .gap n →
        t.ctb.live.get .gapFrames = min 65535 (s.ctb.live.get .gapFrames + n) ∧
          Flag.gap.isIn t.nwc.flags = true) ∧
      (r.relation = .resync →
        t.ctb.live.get .resyncs = min 65535 (s.ctb.live.get .resyncs + 1) ∧
          Flag.gap.isIn t.nwc.flags = true) ∧
      (r.relation = .duplicate →
        t.ctb.live.get .duplicates = min 65535 (s.ctb.live.get .duplicates + 1)) ∧
      (r.relation = .untracked →
        t.ctb.live.get .untracked = min 65535 (s.ctb.live.get .untracked + 1))

/-- PIN SOURCE, UNPIN SOURCE, FORGET SOURCE, FORGET UNPINNED and READ SOURCE that find no relation in
hand take effect at their taking (R52 to R57, R173, R174). -/
def Claim.SourceCommandsTakeEffect : Prop :=
  ∀ s : State, s.Takes → s.srt.inHand = none →
    let a := s.cmu.arg
    let done := fun (table : List SourceEntry) (window : Option SourceWindow) (code : Byte) (r : CmdResult) =>
      (({ s with srt := ⟨table, none, window⟩ } : State).completed code r).wrote 0x07
    (isNode a = true →
      (∀ e, sourceEntry s.srt.table a = some e →
        exec .pinSource s = .next (done
          (s.srt.table.map fun e => if e.addr = a then { e with pinned := true } else e) s.srt.window 0x50 .ok) ∧
        exec .unpinSource s = .next (done
          (s.srt.table.map fun e => if e.addr = a then { e with pinned := false } else e) s.srt.window 0x51 .ok) ∧
        exec .forgetSource s = .next (done (s.srt.table.eraseP (·.addr == a)) s.srt.window 0x52 .ok)) ∧
      (sourceEntry s.srt.table a = none →
        let new : SourceEntry := ⟨a, none, none, true, 0, 0, s.tkg.tickCount⟩
        (s.srt.table.length < 24 →
          exec .pinSource s = .next (done (new :: s.srt.table) s.srt.window 0x50 .ok)) ∧
        (24 ≤ s.srt.table.length → ∀ before v after, s.srt.table = before ++ v :: after →
          v.pinned = false → (∀ e ∈ after, e.pinned = true) →
          exec .pinSource s = .next (done (new :: (before ++ after)) s.srt.window 0x50 .ok)) ∧
        (24 ≤ s.srt.table.length → (∀ e ∈ s.srt.table, e.pinned = true) →
          exec .pinSource s = .next (done s.srt.table s.srt.window 0x50 .full)) ∧
        exec .unpinSource s = .next (done s.srt.table s.srt.window 0x51 .notFound) ∧
        exec .forgetSource s = .next (done s.srt.table s.srt.window 0x52 .notFound))) ∧
    exec .forgetUnpinned s = .next (done (s.srt.table.filter (·.pinned)) s.srt.window 0x53 .ok) ∧
    (∀ e, s.srt.table[a.toNat]? = some e →
      exec .readSource s = .next (done s.srt.table (some ⟨a.toNat, e⟩) 0x54 .ok)) ∧
    (s.srt.table.length ≤ a.toNat →
      exec .readSource s = .next (done s.srt.table s.srt.window 0x54 .notFound))

/-- A source address out of range is refused at the taking, even with a relation in hand; otherwise a
source command taken with a relation in hand waits, with its argument captured (R52, R170, R173). -/
def Claim.SourceCommandsWait : Prop :=
  ∀ s : State, s.Takes →
    (isNode s.cmu.arg = false →
      exec .pinSource s = .next ((s.completed 0x50 .arg).wrote 0x07) ∧
      exec .unpinSource s = .next ((s.completed 0x51 .arg).wrote 0x07) ∧
      exec .forgetSource s = .next ((s.completed 0x52 .arg).wrote 0x07)) ∧
    (s.srt.inHand ≠ none →
      (isNode s.cmu.arg = true →
        exec .pinSource s = .next ((s.busyWith .pinSource).wrote 0x07) ∧
        exec .unpinSource s = .next ((s.busyWith .unpinSource).wrote 0x07) ∧
        exec .forgetSource s = .next ((s.busyWith .forgetSource).wrote 0x07)) ∧
      exec .forgetUnpinned s = .next ((s.busyWith .forgetUnpinned).wrote 0x07) ∧
      exec .readSource s = .next ((s.busyWith .readSource).wrote 0x07))

/-- The five source commands, with and without a relation in hand. -/
def Obligations.SourceCommandsActOrWait : Prop :=
  Claim.SourceCommandsTakeEffect ∧ Claim.SourceCommandsWait

/-- A waiting source command takes effect at the end of the frame, by its captured argument, on the table
that the source tracker's part of the commit or the abandon left, and completes (R51, R52, R170, R174). That
DEFERRED_SOURCE_COMMAND is the event that ends the frame is the model's reading (notes/assumptions/8.md), and
so is that a classification still in flight at the check is completed there, the verdict stored at the commit
being fixed from its result (notes/assumptions/9.md). -/
def Obligations.WaitingSourceCommandRuns : Prop :=
  ∀ (s : State) (f : InFlight) (e : FrameEnding), s.cmu.inFlight = some f → f.cmd.isSource = true →
    s.srt.inHand ≠ none → s.EndsBody e →
    let fixed := (finishClassification s).rsp.inputs.bind fixVerdict
    let left : Srt :=
      match e with
      | .characterEnd b true _ =>
        if crcByte s.lrv.buffer.crc b = 0 then s.srt.commit fixed s.tkg.tickCount
        else { s.srt with inHand := none }
      | _ => { s.srt with inHand := none }
    let done := sourceEffect f.cmd f.arg s.tkg.tickCount left
    ∃ t, exec (.deferredSourceCommand e) s = .next t ∧ exec e.event s = .next t ∧
      t.srt = done.1 ∧ t.cmu = { s.cmu with last := f.cmd.code, result := done.2, inFlight := none } ∧
      Flag.cmdDone.isIn t.nwc.flags = true

/-! ### The acceptance filter -/

/-- When an entry matches a frame (R61), and that the lowest matching index decides (R66). -/
def Obligations.EntryMatchesFrame : Prop :=
  (∀ (e : AcfEntry) (h : Header), e.matchesFrame h = true ↔
    e.valid = true ∧ (e.topicLow.toNat ≤ h.topic.toNat ∧ h.topic.toNat ≤ e.topicHigh.toNat) ∧
      (e.source = none ∨ e.source = some h.source) ∧
      ((e.kinds = .either ∧ (h.kind = .publish ∨ h.kind = .send)) ∨
        (e.kinds = .publish ∧ h.kind = .publish) ∨ (e.kinds = .send ∧ h.kind = .send))) ∧
  (∀ (table : List AcfEntry) (h : Header) (n : Nat) (e : AcfEntry),
    searchFrom h 0 table = some (n, e) ↔
      table[n]? = some e ∧ e.matchesFrame h = true ∧
        ∀ k < n, ∀ e', table[k]? = some e' → e'.matchesFrame h = false)

/-- The hash index of a topic lies from 0 to 511 and differs from the topic's place in its block in the
three lowest places only; within a block of 512 topics the indices differ, and each index is met once in
each block; the hash set accepts a topic by the member at its index (R63). -/
def Obligations.HashIndexOfATopic : Prop :=
  (∀ t : Topic, hashIndex t = (t.toNat % 512) ^^^ (t.toNat / 512) ∧ hashIndex t < 512 ∧
    hashIndex t / 8 = t.toNat % 512 / 8) ∧
  (∀ t u : Topic, t.toNat / 512 = u.toNat / 512 → hashIndex t = hashIndex u → t = u) ∧
  (∀ h < 512, ∀ block < 8, ∃ t : Topic, t.toNat / 512 = block ∧ hashIndex t = h) ∧
  (∀ t : Topic, hashIndex t = 417 ↔ t.toNat ∈ [417, 928, 1443, 1954, 2469, 2980, 3495, 4006]) ∧
  hashIndex 1444 = 422 ∧
  (∀ (hash : List Byte) (i : Nat) (v : Byte), hash[i / 8]? = some v →
    hashMember hash i = v.getLsbD (i % 8)) ∧
  (∀ (cfg : LockedConfig) (hash : List Byte) (t : Topic), cfg.filterMode = .closed → cfg.hashOn = true →
    ((fallback cfg hash t).1 = .queue ↔ hashMember hash (hashIndex t) = true))

/-- The fallback when no entry matches (R67, Table 35). -/
def Obligations.FallbackWhenNoEntryMatches : Prop :=
  ∀ (cfg : LockedConfig) (hash : List Byte) (h : Header) (rel : Relation),
    let r := classify cfg hash ⟨h, rel, none⟩
    let present := hashMember hash (hashIndex h.topic)
    r.slot = none ∧ r.urgent = false ∧ r.relation = rel ∧
      (cfg.filterMode = .openMode → r.action = .queue ∧ r.matched = .openMode) ∧
      (cfg.filterMode = .closed → cfg.hashOn = true → present = true →
        r.action = .queue ∧ r.matched = .hash) ∧
      (cfg.filterMode = .closed → cfg.hashOn = true → present = false →
        r.action = .discard ∧ r.matched = .nothing) ∧
      (cfg.filterMode = .closed → cfg.hashOn = false → r.action = .discard ∧ r.matched = .nothing)

/-- Classification completion (R66, R68, R69, R91, R92, R107, R115): the result is fixed from the entry
found or the fallback, the queue reserves or marks queue-full, the store takes the slot, the responder the
action and the mark; and an entry command that waited then takes effect and completes (R77). -/
def Obligations.ClassificationFixesTheResult : Prop :=
  ∀ (s : State) (j : ClassJob), s.acf.job = some j →
    let r := classify s.cfg s.acf.hash j
    let size := recordSize j.hdr.length
    let done := Nwc.doneIf s.entryWaits
    ∃ t, exec .classificationCompletion s = .next t ∧
      (∀ n e, j.found = some (n, e) →
        r = ⟨e.action, if e.action.updates then e.slot else none, e.urgent, .entry n, j.relation⟩) ∧
      (t.acf, t.cmu) = s.entryRun { s.acf with job := none, held := some ⟨r, false⟩ } ∧
      t.lvs = { s.lvs with held := if r.action.updates then r.slot else none } ∧
      (r.action.queues = false → t.rxq = s.rxq ∧ t.nwc = done s.nwc) ∧
      (r.action.queues = true → s.rxq.free < size →
        t.rxq = { s.rxq with claim := .queueFull } ∧ t.nwc = done s.nwc) ∧
      (r.action.queues = true → size ≤ s.rxq.free → s.rxq.claim = .nothing →
        t.rxq.claim = .reserved j.hdr r ∧ t.rxq.used = s.rxq.used + size ∧
        (s.rxq.arm = true → s.rxq.watermark ≠ 0 → 64 * s.rxq.watermark ≤ s.rxq.used + size →
          t.rxq.arm = false ∧ t.nwc = done (s.nwc.raise .watermark)) ∧
        (s.rxq.arm = false ∨ s.rxq.watermark = 0 ∨ s.rxq.used + size < 64 * s.rxq.watermark →
          t.rxq.arm = s.rxq.arm ∧ t.nwc = done s.nwc)) ∧
      t.rsp.state = s.rsp.state ∧
      (∀ i, s.rsp.inputs = some i → ∃ m, t.rsp.inputs = some { i with action := some r.action, mark := m } ∧
        (r.action.queues = false → m = none) ∧
        (r.action.queues = true → s.rxq.free < size → m = some .queueFull) ∧
        (r.action.queues = true → size ≤ s.rxq.free → m = some .reserved)) ∧
      (s.rsp.inputs = none → t.rsp.inputs = none) ∧
      t = { s with acf := t.acf, rxq := { s.rxq with claim := t.rxq.claim, arm := t.rxq.arm },
                   lvs := t.lvs, rsp := t.rsp, nwc := t.nwc, cmu := t.cmu }

/-- COMMIT ENTRY, CLEAR ENTRY and READ ENTRY that find no classification in flight take effect at their
taking; an index from 32 is refused (R77 to R82). -/
def Claim.EntryCommandsTakeEffect : Prop :=
  ∀ s : State, s.Takes →
    let n := s.cmu.arg.toNat
    let g := s.acf.staging
    (32 ≤ n →
      exec .commitEntry s = .next ((s.completed 0x40 .arg).wrote 0x07) ∧
      exec .clearEntry s = .next ((s.completed 0x41 .arg).wrote 0x07) ∧
      exec .readEntry s = .next ((s.completed 0x42 .arg).wrote 0x07)) ∧
    (n < 32 → s.acf.job = none →
      let bad := g.topicHigh.toNat < g.topicLow.toNat ∨ 248 ≤ g.source.toNat ∨ g.kinds = 3 ∨
        ((g.action = .latest ∨ g.action = .both) ∧ 16 ≤ g.slot.toNat)
      (bad → exec .commitEntry s = .next ((s.completed 0x40 .arg).wrote 0x07)) ∧
      (¬bad →
        exec .commitEntry s = .next ((({ s with acf := { s.acf with
          table := s.acf.table.set n
            { valid := g.valid, topicLow := g.topicLow, topicHigh := g.topicHigh
              source := if g.source = 0 then none else some g.source
              kinds := if g.kinds = 0 then .publish else if g.kinds = 1 then .send else .either
              action := g.action
              slot := if g.action = .latest ∨ g.action = .both then some g.slot.toNat else none
              urgent := g.urgent, hits := 0 }
          held := s.acf.held.map fun r =>
            { r with rewritten := r.rewritten || decide (r.result.matched = .entry n) } } } : State).completed
          0x40 .ok).wrote 0x07)) ∧
      (∀ e, s.acf.table[n]? = some e →
        exec .clearEntry s = .next ((({ s with acf := { s.acf with
          table := s.acf.table.set n { e with valid := false, hits := 0 }
          held := s.acf.held.map fun r =>
            { r with rewritten := r.rewritten || decide (r.result.matched = .entry n) } } } : State).completed
          0x41 .ok).wrote 0x07) ∧
        exec .readEntry s = .next ((({ s with acf := { s.acf with
          staging := ⟨e.valid, e.topicLow, e.topicHigh, e.source.getD 0, e.kinds.code, e.action,
            BitVec.ofNat 8 (e.slot.getD 0), e.urgent, e.hits⟩ } } : State).completed 0x42 .ok).wrote 0x07)))

/-- An entry command taken during a classification waits, and takes effect at its completion, after the
filter has fixed and handed on the result (R68, R77). -/
def Claim.EntryCommandsWaitForTheClassification : Prop :=
  (∀ s : State, s.Takes → s.cmu.arg.toNat < 32 → s.acf.job ≠ none →
    exec .commitEntry s = .next ((s.busyWith .commitEntry).wrote 0x07) ∧
    exec .clearEntry s = .next ((s.busyWith .clearEntry).wrote 0x07) ∧
    exec .readEntry s = .next ((s.busyWith .readEntry).wrote 0x07)) ∧
  (∀ (s : State) (f : InFlight) (j : ClassJob), s.cmu.inFlight = some f → f.cmd.isEntry = true →
    s.acf.job = some j →
    let fixed : Acf := { s.acf with job := none, held := some ⟨classify s.cfg s.acf.hash j, false⟩ }
    let done := entryEffect f.cmd f.arg fixed
    ∃ t, exec .deferredEntryCommand s = .next t ∧ exec .classificationCompletion s = .next t ∧
      t.acf = done.1 ∧ t.cmu = { s.cmu with last := f.cmd.code, result := done.2, inFlight := none } ∧
      Flag.cmdDone.isIn t.nwc.flags = true)

/-- The three entry commands, with and without a classification in flight. -/
def Obligations.EntryCommandsActOrWait : Prop :=
  Claim.EntryCommandsTakeEffect ∧ Claim.EntryCommandsWaitForTheClassification

/-- The acceptance filter at frame commit (R72, R73): the matched entry's hit count rises by 1 up to 65535
unless it was written or cleared since, no other entry changes, a DISCARD is counted, the copy is dropped. -/
def Obligations.CommitCountsTheHit : Prop :=
  ∀ (s : State) (b : Byte) (level : Bool) (held : HeldResult), s.Commits b →
    s.acf.held = some held →
    ∃ t, exec (.characterEnd b true level) s = .next t ∧
      t.acf = { s.acf with table := t.acf.table, held := none } ∧
      (∀ n e, held.result.matched = .entry n → s.acf.table[n]? = some e → held.rewritten = false →
        t.acf.table = s.acf.table.set n { e with hits := min 65535 (e.hits + 1) }) ∧
      (held.rewritten = true ∨ (∀ n, held.result.matched ≠ .entry n) → t.acf.table = s.acf.table) ∧
      t.ctb.live.get .filtered =
        (if held.result.action = .discard then min 65535 (s.ctb.live.get .filtered + 1)
         else s.ctb.live.get .filtered)

/-! ### The receive queue -/

/-- What a record occupies and how many of one size the memory holds (R88, Table 42), and that the free
and used bytes share 4096 (R87). -/
def Obligations.RecordSizes : Prop :=
  (∀ n ≤ 48, recordSize n = 12 + 4 * (n / 4 + if n % 4 = 0 then 0 else 1) ∧
    12 ≤ recordSize n ∧ recordSize n ≤ 60 ∧ recordSize n % 4 = 0) ∧
  (∀ n ≤ 48, 4096 / recordSize n =
    [341, 256, 204, 170, 146, 128, 113, 102, 93, 85, 78, 73, 68].getD ((n + 3) / 4) 0) ∧
  (∀ q : Rxq, q.used = (q.records.map fun r => recordSize r.length).sum +
    (match q.claim with
     | .reserved h _ => recordSize h.length
     | _ => 0) ∧ q.free = 4096 - q.used)

/-- Frame commit of a frame with the reservation (R89, R94): the newest record, used bytes unchanged, the
commit reported to the mitigation, which counts it, sets RX and stops or loads the hold-off (R157, R158). -/
def Claim.CommitMakesTheRecord : Prop :=
  ∀ (s : State) (b : Byte) (level : Bool) (h : Header) (r : Classified), s.Commits b →
    s.rxq.claim = .reserved h r → h.length = s.lrv.buffer.payload.length →
    ∃ t, exec (.characterEnd b true level) s = .next t ∧
      t.rxq = { s.rxq with
        records := s.rxq.records ++
          [{ source := h.source, topic := h.topic, kind := h.kind, seq := h.seq, length := h.length
             relation := match r.relation with
               | .first => .first
               | .gap n => .gap n
               | .resync => .resync
               | .untracked => .untracked
               | .next | .retry | .duplicate => .nothing
             urgent := r.urgent
             slot := if r.action = .both then r.slot else none
             matched := r.matched, stamp := s.tkg.tickCount, payload := s.lrv.buffer.payload }]
        claim := .nothing
        readPos := if s.rxq.records = [] then 0 else s.rxq.readPos } ∧
      t.rxq.used = s.rxq.used ∧
      t.nwc.u = (if Flag.rx.isIn s.nwc.flags then s.nwc.u else s.nwc.u + 1) ∧
      (Flag.rx.isIn s.nwc.flags = true ∨ r.urgent = true ∨ s.nwc.rxThreshold ≤ s.nwc.u + 1 ↔
        Flag.rx.isIn t.nwc.flags = true) ∧
      (Flag.rx.isIn s.nwc.flags = true → t.nwc.holdOff = s.nwc.holdOff) ∧
      (Flag.rx.isIn s.nwc.flags = false → Flag.rx.isIn t.nwc.flags = true → t.nwc.holdOff = none) ∧
      (Flag.rx.isIn t.nwc.flags = false →
        t.nwc.holdOff =
          if s.nwc.u = 0 ∧ s.nwc.rxHoldoff ≠ 0 then some s.nwc.rxHoldoff else s.nwc.holdOff)

/-- Frame commit of a queue-full frame (R95): no record, QFULL_DROPS and QFULL. -/
def Claim.CommitDropsWhenQueueFull : Prop :=
  ∀ (s : State) (b : Byte) (level : Bool), s.Commits b → s.rxq.claim = .queueFull →
    ∃ t, exec (.characterEnd b true level) s = .next t ∧ t.rxq = { s.rxq with claim := .nothing } ∧
      t.ctb.live.get .qfullDrops = min 65535 (s.ctb.live.get .qfullDrops + 1) ∧
      Flag.qfull.isIn t.nwc.flags = true

/-- The receive queue at frame commit: a record, or a counted drop. -/
def Obligations.CommitFillsTheQueue : Prop :=
  Claim.CommitMakesTheRecord ∧ Claim.CommitDropsWhenQueueFull

/-- RELEASE HEAD (R101): with a head it leaves, QDATA starts again, the arm is set below the level; with
none the command is refused EMPTY. U and the flags but CMD_DONE stand. -/
def Obligations.ReleaseHeadRemovesTheOldest : Prop :=
  ∀ s : State, s.Takes →
    (∀ r rest, s.rxq.records = r :: rest →
      let q : Rxq := { s.rxq with records := rest, readPos := 0 }
      exec .releaseHead s = .next ((({ s with
        rxq := { q with arm := s.rxq.arm || belowLevel q.watermark q.used } } : State).completed 0x20 .ok).wrote
        0x07) ∧ s.rxq.used = q.used + recordSize r.length) ∧
    (s.rxq.records = [] → exec .releaseHead s = .next ((s.completed 0x20 .empty).wrote 0x07))

/-- FLUSH QUEUE (R103, R160): every record leaves, the claim of the frame in flight is kept, U is 0 and the
hold-off stops, RX as it was. -/
def Obligations.FlushQueueRemovesEveryRecord : Prop :=
  ∀ s : State, s.Takes →
    ∃ t, exec .flushQueue s = .next t ∧
      t = (({ s with
        rxq := { s.rxq with records := [], readPos := 0, arm := t.rxq.arm }
        nwc := { s.nwc with u := 0, holdOff := none } } : State).completed 0x21 .ok).wrote 0x07 ∧
      t.rxq.arm = (s.rxq.arm || (decide (s.rxq.records ≠ []) && belowLevel s.rxq.watermark t.rxq.used))

/-- A write of WATERMARK (R106, R108). -/
def Claim.WatermarkWriteSetsTheArm : Prop :=
  ∀ (s : State) (v : Byte), s.WritesAt 0x33 →
    let w := if 65 ≤ v.toNat then 64 else v.toNat
    exec (.watermarkWrite v) s = .next (({ s with rxq := { s.rxq with
      watermark := w
      arm := s.rxq.arm || decide (w = 0 ∨ s.rxq.used < 64 * w) } } : State).wrote 0x34)

/-! ### Slots -/

/-- Frame commit for a target slot (R116, R117, R125): the update is written, age 0, FRESH, one more
unread, SLOT when the slot was not FRESH; while a snapshot of the slot is in flight that was not EMPTY it
is held back. -/
def Obligations.CommitUpdatesTheSlot : Prop :=
  ∀ (s : State) (b : Byte) (level : Bool) (n : Nat) (sl : Slot), s.Commits b →
    s.lvs.held = some n → s.lvs.slots[n]? = some sl →
    let h := headerOf s.lrv.buffer.hdr
    let u : SlotContent := ⟨h.source, h.topic, h.seq, h.length, s.lrv.buffer.payload, s.tkg.tickCount⟩
    ∃ t, exec (.characterEnd b true level) s = .next t ∧
      (s.lvs.snap ≠ some ⟨n, false⟩ →
        t.lvs = { s.lvs with
          held := none
          slots := s.lvs.slots.set n
            { sl with state := .fresh, content := u, age := 0, unread := min 255 (sl.unread + 1) } } ∧
        (sl.state ≠ .fresh → Flag.slot.isIn t.nwc.flags = true)) ∧
      (s.lvs.snap = some ⟨n, false⟩ →
        t.lvs = { s.lvs with
          held := none
          slots := s.lvs.slots.set n { sl with deferred := some u, unread := min 255 (sl.unread + 1) } }) ∧
      (s.lvs.snap = some ⟨n, false⟩ ∨ sl.state = .fresh →
        Flag.slot.isIn t.nwc.flags = Flag.slot.isIn s.nwc.flags)

/-- SNAPSHOT SLOT (R122, R123, R126): the slot is recorded as it stands, its unread becomes 0, FRESH
becomes SEEN, the window is not valid and the unit BUSY until the copy completes; a slot from 16 is
refused. -/
def Claim.SnapshotTakesTheSlot : Prop :=
  ∀ s : State, s.Takes →
    let n := s.cmu.arg.toNat
    (16 ≤ n → exec .snapshotSlot s = .next ((s.completed 0x30 .arg).wrote 0x07)) ∧
    (n < 16 → ∀ sl, s.lvs.slots[n]? = some sl →
      exec .snapshotSlot s = .next ((({ s with lvs := { s.lvs with
        slots := s.lvs.slots.set n
          { sl with unread := 0, state := if sl.state = .fresh then .seen else sl.state }
        snap := some ⟨n, decide (sl.state = .empty)⟩
        winValid := false
        window := ⟨n, sl.state, sl.unread, sl.age, sl.maxAge, sl.content⟩
        readPos := 0 } } : State).busyWith .snapshotSlot).wrote 0x07))

/-- Copy completion (R124): the window becomes valid, a deferred update is written with its own stamp and
no further count, SLOT when the slot was not FRESH, and SNAPSHOT SLOT completes OK. -/
def Claim.CopyCompletes : Prop :=
  ∀ (s : State) (p : SnapFlight) (f : InFlight) (sl : Slot), s.lvs.snap = some p →
    s.cmu.inFlight = some f → s.lvs.slots[p.slot]? = some sl →
    (sl.deferred = none →
      exec .copyCompletion s = .next (({ s with lvs := { s.lvs with winValid := true, snap := none } } :
        State).completed f.cmd.code .ok)) ∧
    (∀ u, sl.deferred = some u →
      exec .copyCompletion s = .next (({ s with
        lvs := { s.lvs with
          winValid := true
          snap := none
          slots := s.lvs.slots.set p.slot
            { sl with state := .fresh, content := u, age := 0, deferred := none } }
        nwc := if sl.state = .fresh then s.nwc else s.nwc.raise .slot } : State).completed f.cmd.code .ok))

/-- Clear completion, with SOFT RESET in flight, completes it OK: CMD_ABORTED takes the code of the command it
aborted, the unit is IDLE, CMD_DONE is pending, and nothing else changes (R180). -/
def Claim.ClearCompletionEndsSoftReset : Prop :=
  ∀ (s : State) (f : InFlight), s.cmu.inFlight = some f → f.cmd = .softReset →
    exec .clearCompletion s = .next (({ s with cmu := { s.cmu with aborted := f.abortCode } } :
      State).completed 0x96 .ok)

/-- Copy completion ends SNAPSHOT SLOT, and clear completion ends SOFT RESET. -/
def Obligations.CopyCompletionEndsTheSnapshot : Prop :=
  Claim.CopyCompletes ∧ Claim.ClearCompletionEndsSoftReset

/-- SET SLOT WATCH (R120). -/
def Claim.SetSlotWatchSetsTheLimit : Prop :=
  ∀ s : State, s.Takes →
    let n := s.cmu.arg.toNat
    (16 ≤ n → exec .setSlotWatch s = .next ((s.completed 0x31 .arg).wrote 0x07)) ∧
    (n < 16 → ∀ sl, s.lvs.slots[n]? = some sl →
      exec .setSlotWatch s = .next ((({ s with lvs := { s.lvs with
        slots := s.lvs.slots.set n
          { sl with maxAge := 256 * s.cmu.paramH.toNat + s.cmu.paramL.toNat, age := 0 } } } : State).completed
        0x31 .ok).wrote 0x07))

/-- SNAPSHOT SLOT and SET SLOT WATCH. -/
def Obligations.SlotCommandsTakeEffect : Prop :=
  Claim.SnapshotTakesTheSlot ∧ Claim.SetSlotWatchSetsTheLimit

/-! ### Confirmed delivery -/

/-- The verdict of a SEND to the part (R135, Table 58). -/
def Claim.VerdictOfASend : Prop :=
  ∀ i : VerdictInputs,
    (i.cls = .duplicate → fixVerdict i = i.stored) ∧
    (i.cls ≠ .duplicate →
      (i.action = some .discard → fixVerdict i = some .refuseFilter) ∧
      (i.action = some .latest → fixVerdict i = some .accept) ∧
      (i.action = some .queue ∨ i.action = some .both →
        (i.mark = some .queueFull → fixVerdict i = some .refuseFull) ∧
        (i.mark = some .reserved → fixVerdict i = some .accept)))

/-- Frame commit of a SEND to the part (R137, R140): the responder waits with the eleven characters of its
response; a frame that is none leaves the responder as it was, and the idle hold is loaded (R11);
FRAMES_GOOD is counted and the receiver returns to HUNT (R27). -/
def Claim.CommitAnswersTheSend : Prop :=
  ∀ (s : State) (b : Byte) (level : Bool), s.Commits b →
    ∃ t, exec (.characterEnd b true level) s = .next t ∧ (∀ bit, t.ltx bit = true) ∧ t.lrv.rx = .hunt ∧ t.lrv.mode = .framed ∧
      t.ctb.live.get .framesGood = min 65535 (s.ctb.live.get .framesGood + 1) ∧
      (∀ i v, s.rsp.inputs = some i → fixVerdict i = some v →
        let header : List Byte := [i.source, s.cfg.ownAddress, 0x80 ||| i.seq.setWidth 8, 0x00, v.code, 0x00]
        t.rsp = ⟨.waiting ([0x55, 0x55, 0xC5] ++ header ++
          [(crcOf header).extractLsb' 8 8, (crcOf header).extractLsb' 0 8]), none⟩ ∧
        t.clc.idleCount = none) ∧
      (s.rsp.inputs = none → t.rsp = s.rsp ∧
        (s.clc.line = .active → s.clc.idleCount = none →
          t.clc.idleCount = if s.cfg.idleHold = 0 then none else some s.cfg.idleHold.toNat)) ∧
      (s.sourceWaits = false → t.cmu = s.cmu) ∧
      t = { s with lrx := t.lrx, clc := { s.clc with idleCount := t.clc.idleCount }, lrv := t.lrv,
                   srt := t.srt, acf := t.acf, rxq := t.rxq, lvs := t.lvs, rsp := t.rsp, nwc := t.nwc,
                   cmu := t.cmu, ctb := t.ctb }

/-- The verdict of a SEND to the part and the response that carries it. -/
def Obligations.SendIsJudgedAndAnswered : Prop :=
  Claim.VerdictOfASend ∧ Claim.CommitAnswersTheSend

/-- LTX is high but while SENDING, when it carries the response's characters back to back, each a start bit,
eight data bits least significant first and a stop bit, and is high after the last (R133, R139, R141).
The bit times are counted from the entry to SENDING (notes/assumptions/21.md). -/
def Claim.LtxCarriesTheResponse : Prop :=
  ∀ s : State,
    (s.ltxen = false → ∀ bit, s.ltx bit = true) ∧
    (∀ chars done, s.rsp.state = .sending chars done →
      (∀ (i : Nat) (c : Byte), chars[i]? = some c →
        s.ltx (10 * i) = false ∧ (∀ j < 8, s.ltx (10 * i + 1 + j) = c.getLsbD j) ∧
          s.ltx (10 * i + 9) = true) ∧
      ∀ bit, 10 * chars.length ≤ bit → s.ltx bit = true)

/-- The end of the wait (R138, R139): SENDING, LTXEN asserted, nothing read back yet. -/
def Claim.ResponseIsSentAfterTheWait : Prop :=
  ∀ (s : State) (chars : List Byte), s.rsp.state = .waiting chars → s.lrv.rx = .hunt →
    s.lrv.idle.isSome = true →
    ∃ t, exec .responseWaitEnd s = .next t ∧ s.ltxen = false ∧ t.ltxen = true ∧
      t = { s with rsp := { s.rsp with state := .sending chars 0 }, lrv := { s.lrv with idle := some 3 } }

/-- Readback (R142 to R144): a match goes on, the eleventh match completes the response with
RESPONSES_SENT and the idle hold loaded (R11), a mismatch or a missing echo stops it with RESPONSE_ABORTS
and SKIP; the character is not treated as one of HUNT (R36). -/
def Claim.ReadbackDecidesTheResponse : Prop :=
  ∀ (s : State) (chars : List Byte) (done : Nat), s.rsp.state = .sending chars done → s.lrv.rx = .hunt →
    (∀ (b : Byte) (stop level : Bool), s.lrv.charBusy = true →
      ∃ t, exec (.characterEnd b stop level) s = .next t ∧ t.lrv.charBusy = false ∧
        (stop = true ∧ chars[done]? = some b → t.lrv.rx = .hunt ∧
          (done + 1 < 11 → t.rsp.state = .sending chars (done + 1) ∧ t.ctb = s.ctb ∧ t.clc.idleCount = none) ∧
          (11 ≤ done + 1 → t.rsp.state = .idle ∧ t.ltxen = false ∧ (∀ bit, t.ltx bit = true) ∧
            (s.clc.line = .active → s.clc.idleCount = none →
              t.clc.idleCount = if s.cfg.idleHold = 0 then none else some s.cfg.idleHold.toNat) ∧
            t.ctb.live.get .responsesSent = min 65535 (s.ctb.live.get .responsesSent + 1))) ∧
        (stop = false ∨ chars[done]? ≠ some b →
          t.lrv.rx = .skip ∧ t.rsp.state = .idle ∧ t.ltxen = false ∧ (∀ bit, t.ltx bit = true) ∧
            t.clc.idleCount = none ∧ t.ctb.live.get .responseAborts = min 65535 (s.ctb.live.get .responseAborts + 1)) ∧
        t = { s with lrx := level, clc := { s.clc with idleCount := t.clc.idleCount }, lrv := t.lrv,
                     rsp := { s.rsp with state := t.rsp.state }, nwc := t.nwc, ctb := t.ctb }) ∧
    (s.lrv.charBusy = false →
      ∃ t, exec .missingEcho s = .next t ∧ t.lrv.rx = .skip ∧ t.rsp.state = .idle ∧ t.ltxen = false ∧
        (∀ bit, t.ltx bit = true) ∧ t.clc.idleCount = none ∧
        t.ctb.live.get .responseAborts = min 65535 (s.ctb.live.get .responseAborts + 1) ∧
        t = { s with clc := { s.clc with idleCount := t.clc.idleCount }, lrv := t.lrv,
                     rsp := { s.rsp with state := t.rsp.state }, nwc := t.nwc, ctb := t.ctb })

/-- The response on the line. -/
def Obligations.ResponseIsSentAndReadBack : Prop :=
  Claim.LtxCarriesTheResponse ∧ Claim.ResponseIsSentAfterTheWait ∧ Claim.ReadbackDecidesTheResponse

/-! ### Notification -/

/-- A set of a flag (R149, R164): the flag is pending, its name joins WAKE_CAUSE while the host is ASLEEP
and the WAKE enable is set, and nothing else changes. IRQ and WAKE are the levels of R153 and R154. -/
def Obligations.FlagSetsAndLevels : Prop :=
  (∀ (f g : Flag) (n : Nwc),
    g.isIn (n.raise f).flags = (g.isIn n.flags || decide (g = f)) ∧
    g.isIn (n.raise f).wakeCause =
      (g.isIn n.wakeCause || (decide (g = f) && decide (n.host = .asleep) && g.isIn n.wakeEn)) ∧
    n.raise f = { n with flags := (n.raise f).flags, wakeCause := (n.raise f).wakeCause }) ∧
  (∀ s : State,
    (s.irqN = false ↔ s.nwc.host = .awake ∧ ∃ f : Flag, f.isIn s.nwc.flags = true ∧ f.isIn s.nwc.irqEn = true) ∧
    (s.wakePin = true ↔ s.nwc.host = .asleep ∧ s.nwc.wakeCause ≠ 0))

/-- A write to PENDING (R150, R159): the flags written with one are cleared, the others stand, WAKE_CAUSE
takes no name but by the re-count; a clear of a pending RX sets U to the record count, and RX is pending
again at the threshold, a set that joins WAKE_CAUSE as any set does (R164), or the hold-off is loaded below
it. -/
def Obligations.PendingClearRecounts : Prop :=
  ∀ (s : State) (high : Bool) (v : Byte), s.WritesAt (if high then 0x0C else 0x0B) →
    let written := fun f : Flag => decide (f.bit / 8 = if high then 1 else 0) && v.getLsbD (f.bit % 8)
    let n := s.rxq.records.length
    ∃ t, exec (.pendingClear high v) s = .next t ∧
      (∀ f : Flag, f ≠ .rx → f.isIn t.nwc.flags = (f.isIn s.nwc.flags && !written f)) ∧
      (¬(Flag.rx.isIn s.nwc.flags = true ∧ written .rx = true) →
        t.nwc = { s.nwc with flags := t.nwc.flags } ∧ Flag.rx.isIn t.nwc.flags = Flag.rx.isIn s.nwc.flags) ∧
      (Flag.rx.isIn s.nwc.flags = true → written .rx = true →
        t.nwc.u = n ∧
        (s.nwc.rxThreshold ≤ n → Flag.rx.isIn t.nwc.flags = true ∧ t.nwc.holdOff = none ∧
          t.nwc.wakeCause =
            if s.nwc.host = .asleep ∧ Flag.rx.isIn s.nwc.wakeEn then s.nwc.wakeCause ||| Flag.rx.mask
            else s.nwc.wakeCause) ∧
        (n < s.nwc.rxThreshold → Flag.rx.isIn t.nwc.flags = false ∧ t.nwc.wakeCause = s.nwc.wakeCause ∧
          t.nwc.holdOff = if n = 0 ∨ s.nwc.rxHoldoff = 0 then none else some s.nwc.rxHoldoff)) ∧
      t = ({ s with nwc := { s.nwc with flags := t.nwc.flags, wakeCause := t.nwc.wakeCause, u := t.nwc.u,
                                        holdOff := t.nwc.holdOff } } : State).wrote (if high then 0x0D else 0x0C)

/-- A write of IRQ enables replaces the enables of that register (R152). -/
def Claim.IrqEnablesAreReplaced : Prop :=
  ∀ (s : State) (high : Bool) (v : Byte), s.WritesAt (if high then 0x0E else 0x0D) →
    ∃ t, exec (.irqEnWrite high v) s = .next t ∧
      (∀ f : Flag, f.isIn t.nwc.irqEn =
        if f.bit / 8 = (if high then 1 else 0) then v.getLsbD (f.bit % 8) else f.isIn s.nwc.irqEn) ∧
      t = ({ s with nwc := { s.nwc with irqEn := t.nwc.irqEn } } : State).wrote (if high then 0x0F else 0x0E)

/-- HOST SLEEP and HOST AWAKE (R163, R165). The CMD_DONE of HOST SLEEP is a set made while ASLEEP. -/
def Obligations.HostSleepsAndWakes : Prop :=
  ∀ s : State, s.Takes →
    (s.nwc.host = .awake →
      exec .hostSleep s = .next ((({ s with nwc := { s.nwc with
        host := .asleep, wakeCause := s.nwc.flags &&& s.nwc.wakeEn } } : State).completed 0x70 .ok).wrote 0x07) ∧
      exec .hostAwake s = .next ((s.completed 0x71 .state).wrote 0x07)) ∧
    (s.nwc.host = .asleep →
      exec .hostAwake s = .next ((({ s with nwc := { s.nwc with host := .awake } } : State).completed
        0x71 .ok).wrote 0x07) ∧
      exec .hostSleep s = .next ((s.completed 0x70 .state).wrote 0x07))

/-! ### The command unit, the counters and the port -/

/-- NOP (R176): result OK, CMD_DONE, and nothing else but the port's own move. -/
def Obligations.NopChangesNoBlock : Prop :=
  ∀ s : State, s.Takes → exec .nop s = .next ((s.completed 0x01 .ok).wrote 0x07)

/-- A write to CMD while BUSY is refused, and changes nothing but REJECTED; SOFT RESET is taken (R172). -/
def Obligations.BusyWriteIsRefused : Prop :=
  ∀ (s : State) (f : InFlight), s.WritesAt 0x06 → s.cmu.inFlight = some f →
    (∀ c : Instr, c.writesCmd = true →
      exec c s = .next (({ s with cmu := { s.cmu with rejected := true } } : State).wrote 0x07)) ∧
    (∃ t, exec .softReset s = .next t ∧ t.cmu.inFlight.map (·.cmd) = some .softReset ∧
      t.cmu.rejected = s.cmu.rejected)

/-- A write to CMD while IDLE of a code that names no command completes at once with ARG (R173, R198). -/
def Obligations.UnknownCodeIsRefused : Prop :=
  ∀ (s : State) (code : Byte), s.Takes → code ∉ Config.commandCodes →
    exec (.unknownCommand code) s = .next ((s.completed code .arg).wrote 0x07)

/-- START LINE and STOP LINE (R6, R7, R13, R146). -/
def Obligations.LineIsStartedAndStopped : Prop :=
  ∀ s : State, s.Takes →
    let rising : Clc := ⟨.rising, some (256 * 2 ^ s.cfg.settleSel.toNat), none⟩
    (s.clc.line ≠ .dormant → exec .startLine s = .next ((s.completed 0x10 .state).wrote 0x07)) ∧
    (s.clc.line = .dormant →
      (s.cfg.ownAddress = 0 → exec .startLine s = .next ((s.completed 0x10 .arg).wrote 0x07)) ∧
      (s.cfg.ownAddress ≠ 0 → s.cfg.idleHold ≠ 0 → s.lrx = true →
        exec .startLine s = .next ((({ s with clc := ⟨.listen, none, none⟩ } : State).completed
          0x10 .ok).wrote 0x07)) ∧
      (s.cfg.ownAddress ≠ 0 → s.cfg.idleHold = 0 ∨ s.lrx = false →
        exec .startLine s = .next ((({ s with clc := rising } : State).completed 0x10 .ok).wrote 0x07)) ∧
      exec .stopLine s = .next ((s.completed 0x11 .state).wrote 0x07)) ∧
    (s.clc.line ≠ .dormant →
      ∃ t, exec .stopLine s = .next t ∧ t.oscillatorOn = false ∧ t.ltxen = false ∧
        (∀ bit, t.ltx bit = true) ∧ t.ctb = s.ctb ∧
        t = (({ s with
          clc := ⟨.dormant, none, none⟩
          lrv := .off
          srt := { s.srt with inHand := none }
          acf := { s.acf with job := none, held := none }
          rxq := { s.rxq with claim := .nothing, arm := t.rxq.arm }
          lvs := { s.lvs with held := none }
          rsp := ⟨.idle, none⟩ } : State).completed 0x11 .ok).wrote 0x07 ∧
        t.rxq.arm = (s.rxq.arm || (decide (s.rxq.claim.size ≠ 0) && belowLevel s.rxq.watermark t.rxq.used)))

/-- SOFT RESET at its taking, in IDLE and in BUSY, with the reports of other blocks that arrive with it and are
taken after it: of the flags but STALE, CMD_DONE and COUNT_SAT that stand, those stay whose set is late, and
of the counts the late increments (notes/assumptions/24.md). MISO carries 0x00, the byte being served with CS_N low
(R189, R193). Without late reports every flag is clear and every
live counter 0 (R5, R14, R59, R86, R112, R132, R148, R169, R179, R187). -/
def Claim.SoftResetActsOnEveryBlock : Prop :=
  ∀ s : State, s.WritesAt 0x06 →
    let late := s.spi.late
    ∃ t, exec .softReset s = .next t ∧ (∀ bit, t.ltx bit = true) ∧
      (s.PortSound → t.miso = some 0) ∧
      (s.cmu.inFlight = none → t.cmu = { s.cmu with
        inFlight := some ⟨.softReset, s.cmu.arg, s.cmu.paramH ++ s.cmu.paramL, 0⟩ }) ∧
      (∀ f, s.cmu.inFlight = some f → t.cmu = { s.cmu with
        last := f.cmd.code
        result := .aborted
        inFlight := some ⟨.softReset, s.cmu.arg, s.cmu.paramH ++ s.cmu.paramL, f.cmd.code⟩ }) ∧
      t.clc = ⟨.dormant, none, none⟩ ∧ t.lrv = .off ∧ t.rsp = ⟨.idle, none⟩ ∧
      t.srt = ⟨(s.srt.table.filter (·.pinned)).map fun e =>
        { e with lastSeq := none, lastVerdict := none, gapTotal := 0, dupTotal := 0 }, none, none⟩ ∧
      t.acf = { s.acf with table := s.acf.table.map fun e => { e with hits := 0 }, job := none, held := none } ∧
      t.rxq = { s.rxq with records := [], claim := .nothing, readPos := 0, arm := true } ∧
      t.lvs = { s.lvs with
        slots := s.lvs.slots.map fun sl => ⟨.empty, ⟨0, 0, 0, 0, [], 0⟩, 0, 0, sl.maxAge, none⟩
        held := none, snap := none, winValid := false, window := .zero, readPos := 0 } ∧
      t.nwc = { s.nwc with
        flags := t.nwc.flags, wakeCause := 0, host := .awake, u := 0, holdOff := none } ∧
      (∀ f : Flag, f.isIn t.nwc.flags =
        (f.isIn s.nwc.flags && f.isIn late.flags && decide (f ∉ [.stale, .cmdDone, .countSat]))) ∧
      t.ctb.snap = s.ctb.snap ∧
      (∀ k : Counter, t.ctb.live.get k = min (late.counts.count k) (s.ctb.live.get k)) ∧
      (late = ⟨0, []⟩ → t.nwc.flags = 0 ∧ t.ctb.live = .zero ∧ t.irqN = true) ∧ t.wakePin = false ∧
      (t.lrx = s.lrx ∧ t.inReset = false ∧ t.cfg = s.cfg ∧ t.tkg = s.tkg ∧
        t.spi = { s.spi with ptr := 0x07, out := 0, late := ⟨0, []⟩ } ∧
        t.pending = s.pending)

/-- SOFT RESET at its taking and at its clear completion. -/
def Obligations.SoftResetBeginsAndEnds : Prop :=
  Claim.SoftResetActsOnEveryBlock ∧ Claim.ClearCompletionEndsSoftReset

/-- SNAPSHOT COUNTERS (R185), and an increment of a live counter (R183): held at 65535, COUNT_SAT exactly
when it reaches 65535 from below, every other counter unchanged. -/
def Obligations.CountersCountAndAreTaken : Prop :=
  (∀ s : State, s.Takes →
    exec .snapshotCounters s = .next ((({ s with ctb := ⟨.zero, s.ctb.live⟩ } : State).completed
      0x60 .ok).wrote 0x07)) ∧
  (∀ (s : State) (k : Counter) (n : Nat),
    let t := countBy k n s
    t.ctb.live.get k = min 65535 (s.ctb.live.get k + n) ∧
      (∀ j, j ≠ k → t.ctb.live.get j = s.ctb.live.get j) ∧
      (s.ctb.live.get k < 65535 ∧ 65535 ≤ s.ctb.live.get k + n → t.nwc = s.nwc.raise .countSat) ∧
      (65535 ≤ s.ctb.live.get k ∨ s.ctb.live.get k + n < 65535 → t.nwc = s.nwc) ∧
      t = { s with ctb := ⟨t.ctb.live, s.ctb.snap⟩, nwc := t.nwc })

/-- A write to CMD_FLAGS clears the flags written with one (R178). -/
def Claim.CmdFlagsAreClearedByOnes : Prop :=
  ∀ (s : State) (v : Byte), s.WritesAt 0x0A →
    exec (.cmdFlagsClear v) s = .next (({ s with cmu := { s.cmu with
      rejected := s.cmu.rejected && !v.getLsbD 0
      configLocked := s.cmu.configLocked && !v.getLsbD 1 } } : State).wrote 0x0B)

/-- The writes of IRQ_EN, CMD_FLAGS and WATERMARK. -/
def Obligations.EnableFlagAndWatermarkWrites : Prop :=
  Claim.IrqEnablesAreReplaced ∧ Claim.CmdFlagsAreClearedByOnes ∧ Claim.WatermarkWriteSetsTheArm

/-- A write to a locked configuration register (R194): in DORMANT it is held as R195 gives; otherwise the
register keeps its value and CONFIG_LOCKED is set; the register reads what it holds in every line state. -/
def Obligations.ConfigurationIsLocked : Prop :=
  ∀ (s : State) (reg : LockedReg) (v : Byte),
    (s.WritesAt (lockedRegAddr reg) → s.clc.line = .dormant →
      exec (.lockedRegisterWrite reg v) s = .next (({ s with cfg :=
        match reg with
        | .ownAddress => { s.cfg with ownAddress := if 248 ≤ v.toNat then 0 else v }
        | .lineRate => { s.cfg with lineRate := v.extractLsb' 0 2 }
        | .filterMode => { s.cfg with filterMode := if v.getLsbD 0 then .openMode else .closed }
        | .hashOn => { s.cfg with hashOn := v.getLsbD 0 }
        | .tickShift => { s.cfg with tickShift := v.extractLsb' 0 3 }
        | .settleSel => { s.cfg with settleSel := v.extractLsb' 0 2 }
        | .idleHold => { s.cfg with idleHold := v } } : State).wrote (lockedRegAddr reg + 1))) ∧
    (s.WritesAt (lockedRegAddr reg) → s.clc.line ≠ .dormant →
      exec (.lockedRegisterWrite reg v) s = .next (({ s with
        cmu := { s.cmu with configLocked := true } } : State).wrote (lockedRegAddr reg + 1))) ∧
    s.readReg 0x17 = s.cfg.ownAddress ∧ (s.readReg 0x18).toNat = s.cfg.lineRate.toNat ∧
      (s.readReg 0x19 = if s.cfg.filterMode = .openMode then 1 else 0) ∧
      (s.readReg 0x1A = if s.cfg.hashOn then 1 else 0) ∧
      (s.readReg 0x1B).toNat = s.cfg.tickShift.toNat ∧ (s.readReg 0x1C).toNat = s.cfg.settleSel.toNat ∧
      s.readReg 0x1D = s.cfg.idleHold

/-- A write to any other register (R64, R75, R152, R156, R170, R192): the register's owner holds the byte;
a read-only register and an address that holds none ignore it; the pointer advances but at a data port
(R189, R191). -/
def Obligations.RegisterWritesAreHeld : Prop :=
  ∀ (s : State) (v : Byte), s.inReset = false → s.spi.phase = .write →
    let put := fun (addr next : RegAddr) (t : State) =>
      s.spi.ptr = addr → exec (.registerWrite addr v) s = .next (t.wrote next)
    put 0x02 0x03 { s with spi := { s.spi with page := v.extractLsb' 0 2 } } ∧
    put 0x03 0x04 { s with cmu := { s.cmu with arg := v } } ∧
    put 0x04 0x05 { s with cmu := { s.cmu with paramL := v } } ∧
    put 0x05 0x06 { s with cmu := { s.cmu with paramH := v } } ∧
    put 0x0F 0x10 { s with nwc := { s.nwc with wakeEn := s.nwc.wakeEn.extractLsb' 8 2 ++ v } } ∧
    put 0x10 0x11 { s with nwc := { s.nwc with wakeEn := v.extractLsb' 0 2 ++ s.nwc.wakeEn.extractLsb' 0 8 } } ∧
    put 0x13 0x14 { s with nwc := { s.nwc with
      rxThreshold := if v = 0 then 1 else if 17 ≤ v.toNat then 16 else v.toNat } } ∧
    put 0x14 0x15 { s with nwc := { s.nwc with rxHoldoff := v.toNat } } ∧
    put 0x2C 0x2C s ∧
    (∀ addr : RegAddr, addr.toNat ∈ [0x00, 0x01, 0x07, 0x08, 0x09, 0x11, 0x12, 0x15, 0x16, 0x1E, 0x1F, 0x20,
        0x21, 0x22, 0x23, 0x24, 0x25, 0x26, 0x27, 0x28, 0x29, 0x2A, 0x2B, 0x2D, 0x2E, 0x2F, 0x30, 0x31,
        0x32, 0x34, 0x35, 0x36, 0x37, 0x38, 0x39, 0x3A, 0x3B, 0x3C, 0x3D, 0x3E, 0x3F] →
      put addr (addr + 1) s) ∧
    (s.spi.page = 0 → ∀ addr : RegAddr, 0x40 ≤ addr.toNat →
      put addr (addr + 1) { s with acf := { s.acf with hash := s.acf.hash.set (addr.toNat - 0x40) v } }) ∧
    (s.spi.page = 1 →
      let g := s.acf.staging
      let stage := fun (addr next : RegAddr) (g : Staging) => put addr next { s with acf := { s.acf with staging := g } }
      stage 0x40 0x41 { g with
        valid := v.getLsbD 0, kinds := v.extractLsb' 1 2, action :=
          if v.extractLsb' 3 2 = 0 then .queue else if v.extractLsb' 3 2 = 1 then .latest
          else if v.extractLsb' 3 2 = 2 then .both else .discard
        urgent := v.getLsbD 5 } ∧
      stage 0x41 0x42 { g with topicLow := g.topicLow.extractLsb' 8 4 ++ v } ∧
      stage 0x42 0x43 { g with topicLow := v.extractLsb' 0 4 ++ g.topicLow.extractLsb' 0 8 } ∧
      stage 0x43 0x44 { g with topicHigh := g.topicHigh.extractLsb' 8 4 ++ v } ∧
      stage 0x44 0x45 { g with topicHigh := v.extractLsb' 0 4 ++ g.topicHigh.extractLsb' 0 8 } ∧
      stage 0x45 0x46 { g with source := v } ∧ stage 0x46 0x47 { g with slot := v } ∧
      put 0x5E 0x5E s ∧
      (∀ addr : RegAddr, 0x47 ≤ addr.toNat → addr ≠ 0x5E → put addr (addr + 1) s)) ∧
    (2 ≤ s.spi.page.toNat → ∀ addr : RegAddr, 0x40 ≤ addr.toNat → put addr (addr + 1) s)

/-- The load of a register (R190): the byte that a read returns, and what its completion will do: the figure a
capture takes, or the move of a data port's position when the load found a payload to read and a position
below 48. -/
def Claim.LoadTakesByteAndFigures : Prop :=
  ∀ (s : State) (addr : RegAddr),
    let l := s.loadAt addr
    l.byte = s.readReg addr ∧
    (addr = 0x1E → l = ⟨s.tkg.tickCount.extractLsb' 0 8, .tickCount s.tkg.tickCount⟩) ∧
    (addr = 0x2D → l = ⟨BitVec.ofNat 8 s.rxq.used, .fill s.rxq.used s.rxq.free s.rxq.records.length⟩) ∧
    (addr = 0x34 → ∃ fresh stale, l = ⟨fresh.extractLsb' 0 8, .sets fresh stale⟩ ∧
      ∀ n < 16, ∀ sl, s.lvs.slots[n]? = some sl →
        fresh.getLsbD n = decide (sl.state = .fresh) ∧ stale.getLsbD n = decide (sl.state = .stale)) ∧
    (addr = 0x15 → l = ⟨BitVec.ofNat 8 s.nwc.u, .mitigation s.nwc.u⟩) ∧
    (addr = 0x2C →
      (∀ r rest, s.rxq.records = r :: rest →
        l = ⟨if s.rxq.readPos < r.length then r.payload.getD s.rxq.readPos 0 else 0,
          if s.rxq.readPos < 48 then .nextQueueByte else .nothing⟩) ∧
      (s.rxq.records = [] → l = ⟨0, .nothing⟩)) ∧
    (addr = 0x5E → s.spi.page = 1 →
      (s.lvs.winValid = true →
        l = ⟨if s.lvs.readPos < s.lvs.window.content.length then
            s.lvs.window.content.payload.getD s.lvs.readPos 0 else 0,
          if s.lvs.readPos < 48 then .nextSlotByte else .nothing⟩) ∧
      (s.lvs.winValid = false → l = ⟨0, .nothing⟩)) ∧
    ((addr ∉ [0x1E, 0x2D, 0x34, 0x15, 0x2C, 0x5E] ∨ (addr = 0x5E ∧ s.spi.page ≠ 1)) → l.effect = .nothing)

/-- A data byte of a read transaction (R190, R191): the loaded byte is given, its effect takes place, the
pointer advances but at a data port, and the byte where it then stands is loaded. A row of its own is this
byte where the pointer stands at its address. That the load is one step with the completion before it is
the model's (notes/assumptions/25.md). -/
def Claim.DataBytesAreRead : Prop :=
  ∀ (s : State) (addr : RegAddr) (b : Byte) (e : LoadEffect), s.ReadsAt addr ⟨b, e⟩ →
    let next := if addr = 0x2C ∨ (addr = 0x5E ∧ s.spi.page = 1) then addr else addr + 1
    let gives := fun t : State => exec (.commandByte .dataRead) s = .next (t.gave b next)
    (e = .nothing → gives s) ∧
    (∀ c, e = .tickCount c → gives { s with tkg := { s.tkg with capture := c } }) ∧
    (∀ u f n, e = .fill u f n → gives { s with rxq := { s.rxq with capUsed := u, capFree := f, capCount := n } }) ∧
    (∀ fresh stale, e = .sets fresh stale →
      gives { s with lvs := { s.lvs with capFresh := fresh, capStale := stale } }) ∧
    (∀ u, e = .mitigation u → gives { s with nwc := { s.nwc with mitCapture := u } }) ∧
    (e = .nextQueueByte → gives { s with rxq := { s.rxq with
      readPos := if s.rxq.readPos < 48 then s.rxq.readPos + 1 else s.rxq.readPos } }) ∧
    (e = .nextSlotByte → gives { s with lvs := { s.lvs with
      readPos := if s.lvs.readPos < 48 then s.lvs.readPos + 1 else s.lvs.readPos } }) ∧
    (∀ c : Instr, c.readAddr = some addr → exec c s = exec (.commandByte .dataRead) s)

/-- The six reads with an effect, each where its register stands loaded (R4, R100, R105, R128, R129, R155,
R190): the capture or the move of the read position, and nothing else. -/
def Claim.ReadsWithAnEffect : Prop :=
  ∀ (s : State) (b : Byte),
    (∀ c, s.ReadsAt 0x1E ⟨b, .tickCount c⟩ →
      exec .tickCountLRead s = .next (({ s with tkg := { s.tkg with capture := c } } : State).gave b 0x1F)) ∧
    (∀ u f n, s.ReadsAt 0x2D ⟨b, .fill u f n⟩ →
      exec .qusedLRead s = .next (({ s with rxq := { s.rxq with
        capUsed := u, capFree := f, capCount := n } } : State).gave b 0x2E)) ∧
    (∀ fresh stale, s.ReadsAt 0x34 ⟨b, .sets fresh stale⟩ →
      exec .freshSetLRead s = .next (({ s with lvs := { s.lvs with
        capFresh := fresh, capStale := stale } } : State).gave b 0x35)) ∧
    (∀ u, s.ReadsAt 0x15 ⟨b, .mitigation u⟩ →
      exec .mitCountLRead s = .next (({ s with nwc := { s.nwc with mitCapture := u } } : State).gave b 0x16)) ∧
    (s.ReadsAt 0x2C ⟨b, .nextQueueByte⟩ →
      exec .qdataRead s = .next (({ s with rxq := { s.rxq with
        readPos := if s.rxq.readPos < 48 then s.rxq.readPos + 1 else s.rxq.readPos } } : State).gave b 0x2C)) ∧
    (s.ReadsAt 0x2C ⟨b, .nothing⟩ → exec .qdataRead s = .next (s.gave b 0x2C)) ∧
    (s.spi.page = 1 →
      (s.ReadsAt 0x5E ⟨b, .nextSlotByte⟩ →
        exec .sdataRead s = .next (({ s with lvs := { s.lvs with
          readPos := if s.lvs.readPos < 48 then s.lvs.readPos + 1 else s.lvs.readPos } } : State).gave b 0x5E)) ∧
      (s.ReadsAt 0x5E ⟨b, .nothing⟩ → exec .sdataRead s = .next (s.gave b 0x5E)))

/-- A transaction (R188, R190): CS_N's fall takes STATUS_L for the command byte; the command byte loads the
pointer and begins a write, or a read with the byte at the pointer loaded; CS_N's rise ends it with no
effect; and MISO carries the status, then 0x00 in a write and the loaded byte in a read, and is at high
impedance with CS_N high. That it is so too with CS_N low in a transaction that is not served is the model's
choice (notes/assumptions/27.md). The reports that arrive with a data byte written are noted for it
(notes/assumptions/24.md). -/
def Claim.TransactionsRun : Prop :=
  ∀ s : State,
    (s.inReset = false → s.spi.csN = true →
      exec (.commandByte .select) s = .next { s with spi := { s.spi with
        csN := false, phase := .command s.statusL } }) ∧
    (s.spi.csN = false →
      exec (.commandByte .deselect) s = .next { s with spi := { s.spi with
        csN := true, phase := .closed, late := ⟨0, []⟩ } }) ∧
    (∀ status b, s.inReset = false → s.spi.phase = .command status →
      let p := b.extractLsb' 0 7
      exec (.commandByte (.command b)) s = .next { s with spi := { s.spi with
        ptr := p
        phase := if b.getLsbD 7 then .read (s.loadAt p) else .write
        out := status } }) ∧
    (∀ late, s.inReset = false → s.spi.phase = .write →
      exec (.commandByte (.arrivals late)) s = .next { s with spi := { s.spi with late := late } }) ∧
    (s.spi.csN = true → s.miso = none) ∧
    (s.inReset = false → s.spi.csN = false →
      (s.spi.phase = .closed → s.miso = none) ∧ (s.spi.phase = .write → s.miso = some 0) ∧
      (∀ status, s.spi.phase = .command status → s.miso = some status) ∧
      (∀ l, s.spi.phase = .read l → s.miso = some l.byte))

/-- Transactions, the loads and completions of data bytes read, and the six reads with an effect. -/
def Obligations.PortReadsAndCommandByte : Prop :=
  Claim.TransactionsRun ∧ Claim.LoadTakesByteAndFigures ∧ Claim.DataBytesAreRead ∧ Claim.ReadsWithAnEffect

/-- The registers of the command unit, the notification unit and the status registers read what their
owners hold (R197, Tables 82 and 86). -/
def Claim.StatusAndCommandRegistersRead : Prop :=
  ∀ s : State,
    let val := fun addr : RegAddr => (s.readReg addr).toNat
    val 0x00 = (match s.clc.line with
        | .dormant => 0 | .listen => 1 | .rising => 2 | .active => 3) +
      4 * (if s.clc.line = .active then
        (match s.lrv.rx with
         | .off => 0 | .hunt => 1 | .header => 2 | .body => 3 | .skip => 4 | .stuck => 5) else 0) +
      32 * (match s.rsp.state with
        | .idle => 0 | .waiting _ => 1 | .sending _ _ => 2) +
      128 * (if s.cmu.inFlight = none then 0 else 1) ∧
    val 0x01 = (if s.rxq.arm then 1 else 0) + 2 * (if s.nwc.host = .asleep then 1 else 0) ∧
    val 0x02 = s.spi.page.toNat ∧
    s.readReg 0x03 = s.cmu.arg ∧ s.readReg 0x04 = s.cmu.paramL ∧ s.readReg 0x05 = s.cmu.paramH ∧
    s.readReg 0x06 = 0 ∧ s.readReg 0x07 = s.cmu.last ∧
    val 0x08 = (match s.cmu.result with
      | .ok => 0 | .state => 1 | .arg => 2 | .empty => 3 | .notFound => 4 | .full => 5 | .aborted => 6) ∧
    s.readReg 0x09 = s.cmu.aborted ∧
    val 0x0A = (if s.cmu.rejected then 1 else 0) + 2 * (if s.cmu.configLocked then 1 else 0) ∧
    (∀ f : Flag,
      let bit := fun low : RegAddr => (s.readReg (low + BitVec.ofNat 7 (f.bit / 8))).getLsbD (f.bit % 8)
      bit 0x0B = f.isIn s.nwc.flags ∧ bit 0x0D = f.isIn s.nwc.irqEn ∧ bit 0x0F = f.isIn s.nwc.wakeEn ∧
        bit 0x11 = f.isIn s.nwc.wakeCause) ∧
    (∀ high ∈ ([0x0C, 0x0E, 0x10, 0x12] : List RegAddr), val high < 4) ∧
    val 0x13 = s.nwc.rxThreshold % 256 ∧ val 0x14 = s.nwc.rxHoldoff % 256 ∧
    val 0x15 = s.nwc.u % 256 ∧ val 0x16 = s.nwc.mitCapture / 256 % 256

/-- The head of the queue, its fill figures, the slot sets, the tick count and the source count read what
their owners hold or have captured; with no head every HEAD register reads 0 (R4, R98, R105, R129). -/
def Claim.QueueAndSetRegistersRead : Prop :=
  ∀ s : State,
    let val := fun addr : RegAddr => (s.readReg addr).toNat
    val 0x1E = s.tkg.tickCount.toNat % 256 ∧ val 0x1F = s.tkg.capture.toNat / 256 ∧
    (s.rxq.records = [] → ∀ addr : RegAddr, 0x20 ≤ addr.toNat → addr.toNat ≤ 0x2C → s.readReg addr = 0) ∧
    (∀ r rest, s.rxq.records = r :: rest →
      val 0x20 = 1 ∧ s.readReg 0x21 = r.source ∧ val 0x22 + 256 * val 0x23 = r.topic.toNat ∧
      val 0x24 = r.seq.toNat ∧ val 0x25 = r.length % 256 ∧
      val 0x26 = (if r.kind = .send then 1 else 0) +
        2 * (match r.relation with
          | .nothing => 0 | .first => 1 | .gap _ => 2 | .resync => 3 | .untracked => 4) +
        16 * (if r.urgent then 1 else 0) + 32 * (if r.slot = none then 0 else 1) ∧
      val 0x27 = (match r.relation with
        | .gap n => n % 256
        | _ => 0) ∧
      val 0x28 = r.slot.getD 0 % 256 ∧
      val 0x29 = (match r.matched with
        | .entry n => n % 256 | .hash => 32 | .openMode => 33 | .nothing => 0) ∧
      val 0x2A + 256 * val 0x2B = r.stamp.toNat) ∧
    val 0x2D = s.rxq.used % 256 ∧ val 0x2E = s.rxq.capUsed / 256 % 256 ∧
    val 0x2F + 256 * val 0x30 = s.rxq.capFree % 65536 ∧ val 0x31 + 256 * val 0x32 = s.rxq.capCount % 65536 ∧
    val 0x33 = s.rxq.watermark % 256 ∧
    val 0x35 = s.lvs.capFresh.toNat / 256 ∧ val 0x36 + 256 * val 0x37 = s.lvs.capStale.toNat ∧
    (∀ n < 8, ∀ sl, s.lvs.slots[n]? = some sl →
      (s.readReg 0x34).getLsbD n = decide (sl.state = .fresh)) ∧
    val 0x38 = s.srt.table.length % 256 ∧
    (∀ addr : RegAddr, 0x39 ≤ addr.toNat → addr.toNat ≤ 0x3F → s.readReg addr = 0)

/-- The paged area: the hash set on page 0; on page 1 the staging entry, and the two windows, which read 0
while they are not valid; the counter snapshots on page 2; nothing on page 3 (R57, R75, R123, R192). -/
def Claim.PagedRegistersRead : Prop :=
  ∀ s : State,
    let val := fun addr : RegAddr => (s.readReg addr).toNat
    (s.spi.page = 0 → ∀ (k : Nat) (v : Byte), k < 64 → s.acf.hash[k]? = some v →
      s.readReg (BitVec.ofNat 7 (0x40 + k)) = v) ∧
    (s.spi.page = 1 →
      let g := s.acf.staging
      (val 0x40 = (if g.valid then 1 else 0) + 2 * g.kinds.toNat +
          8 * (match g.action with
            | .queue => 0 | .latest => 1 | .both => 2 | .discard => 3) + 32 * (if g.urgent then 1 else 0) ∧
        val 0x41 + 256 * val 0x42 = g.topicLow.toNat ∧ val 0x43 + 256 * val 0x44 = g.topicHigh.toNat ∧
        s.readReg 0x45 = g.source ∧ s.readReg 0x46 = g.slot ∧
        val 0x47 + 256 * val 0x48 = g.hitView % 65536) ∧
      (s.srt.window = none → ∀ addr : RegAddr, 0x49 ≤ addr.toNat → addr.toNat ≤ 0x50 → s.readReg addr = 0) ∧
      (∀ w, s.srt.window = some w →
        val 0x49 = 1 + 2 * (if w.entry.pinned then 1 else 0) + 4 * (if w.entry.lastSeq = none then 0 else 1) +
          8 * (if w.entry.lastVerdict = none then 0 else 1) +
          16 * (match w.entry.lastVerdict with
            | none => 0 | some .accept => 1 | some .refuseFull => 2 | some .refuseFilter => 3) ∧
        val 0x4A = w.pos % 256 ∧ s.readReg 0x4B = w.entry.addr ∧
        val 0x4C = (match w.entry.lastSeq with
          | none => 0
          | some q => q.toNat) ∧
        val 0x4D = w.entry.gapTotal % 256 ∧ val 0x4E = w.entry.dupTotal % 256 ∧
        val 0x4F + 256 * val 0x50 = w.entry.heard.toNat) ∧
      (s.lvs.winValid = false →
        ∀ addr : RegAddr, 0x51 ≤ addr.toNat → addr.toNat ≤ 0x5E → s.readReg addr = 0) ∧
      (s.lvs.winValid = true →
        let w := s.lvs.window
        (w.slot < 16 → val 0x51 = 1 + 2 * (match w.state with
          | .empty => 0 | .fresh => 1 | .seen => 2 | .stale => 3) + 16 * w.slot) ∧
        val 0x52 = w.unread % 256 ∧ val 0x53 + 256 * val 0x54 = w.age % 65536 ∧
        val 0x55 + 256 * val 0x56 = w.maxAge % 65536 ∧ s.readReg 0x57 = w.content.source ∧
        val 0x58 + 256 * val 0x59 = w.content.topic.toNat ∧ val 0x5A = w.content.seq.toNat ∧
        val 0x5B = w.content.length % 256 ∧ val 0x5C + 256 * val 0x5D = w.content.stamp.toNat) ∧
      (∀ addr : RegAddr, 0x5F ≤ addr.toNat → s.readReg addr = 0)) ∧
    (s.spi.page = 2 → ∀ (k : Counter) (n : Nat), Counter.all[n]? = some k →
      val (BitVec.ofNat 7 (0x40 + 2 * n)) + 256 * val (BitVec.ofNat 7 (0x41 + 2 * n)) =
        s.ctb.snap.get k % 65536) ∧
    (s.spi.page = 2 → ∀ addr : RegAddr, 0x5E ≤ addr.toNat → s.readReg addr = 0) ∧
    (s.spi.page = 3 → ∀ addr : RegAddr, 0x40 ≤ addr.toNat → s.readReg addr = 0)

/-- What a read of each register returns (the locked registers stand in ConfigurationIsLocked). -/
def Obligations.RegistersShowTheirOwners : Prop :=
  Claim.StatusAndCommandRegistersRead ∧ Claim.QueueAndSetRegistersRead ∧ Claim.PagedRegistersRead

/-! ### What every step keeps -/

/-- The invariants hold after reset. -/
def Obligations.InvariantsHoldAtReset : Prop :=
  State.reset.QueueFits ∧ State.reset.TablesSized ∧ State.reset.SourcesDistinct ∧ State.reset.LineSound ∧
    State.reset.CommandWaits ∧ State.reset.MitigationSound ∧ State.reset.SlotsSound ∧
    State.reset.WatermarkSound ∧ State.reset.CountersBounded ∧ State.reset.OwnAddressHeld ∧
    State.reset.PortSound

/-- Every step keeps the used bytes within the record memory (R91). -/
def Obligations.StepKeepsQueueWithinMemory : Prop :=
  ∀ s t : State, s.QueueFits → step s = .next t → t.QueueFits

/-- Every step keeps at most 24 source entries with different addresses (R40), and the sizes of the
acceptance table, the hash set and the slots (R60, R64, R113). -/
def Claim.StepKeepsTables : Prop :=
  ∀ s t : State, s.TablesSized → s.SourcesDistinct → step s = .next t → t.TablesSized ∧ t.SourcesDistinct

/-- Every step keeps the line, the receiver, the responder, the frame in flight, the line's times and the
idle hold in agreement (R10, R11, R18, R21, R33, R34, R36, R133). -/
def Obligations.StepKeepsTheLineSound : Prop :=
  ∀ s t : State, s.LineSound → step s = .next t → t.LineSound

/-- Every step keeps it so that a command in flight has an event that will end it (R175, R179). -/
def Obligations.StepKeepsCommandsWaiting : Prop :=
  ∀ s t : State, s.LineSound → s.CommandWaits → step s = .next t → t.CommandWaits

/-- Every step keeps the mitigation, the counters and OWN_ADDRESS within their bounds (R155 to R158, R183,
R195). -/
def Claim.StepKeepsBounds : Prop :=
  ∀ s t : State, s.QueueFits → s.MitigationSound → s.CountersBounded → s.OwnAddressHeld → step s = .next t →
    t.MitigationSound ∧ t.CountersBounded ∧ t.OwnAddressHeld

/-- Every step keeps a transaction within CS_N low and no reset, and the read positions within 48 (R100, R128,
R188, R193). -/
def Claim.StepKeepsThePort : Prop :=
  ∀ s t : State, s.PortSound → step s = .next t → t.PortSound

/-- Every step keeps the tables, the bounds and the port. -/
def Obligations.StepKeepsTablesAndBounds : Prop :=
  Claim.StepKeepsTables ∧ Claim.StepKeepsBounds ∧ Claim.StepKeepsThePort

/-- Every step keeps the slots and the watermark arm sound (R106, R107, R114, R118, R125, R126). -/
def Obligations.StepKeepsSlotsAndWatermark : Prop :=
  ∀ s t : State, s.TablesSized → s.LineSound → s.CommandWaits → s.SlotsSound → s.WatermarkSound →
    step s = .next t →
    t.SlotsSound ∧ t.WatermarkSound

/-- The line state changes only as Table 13 gives. -/
def Claim.LineStateMovesByTable13 : Prop :=
  ∀ (c : Instr) (s t : State), c.wf = true → s.LineSound → exec c s = .next t →
    t.clc.line = s.clc.line ∨
    (s.clc.line = .dormant ∧ c = .startLine ∧ (t.clc.line = .listen ∨ t.clc.line = .rising)) ∨
    (s.clc.line = .listen ∧ t.clc.line = .rising ∧ s.lrx = true ∧ t.lrx = false) ∨
    (s.clc.line = .rising ∧ c = .settleCompletion ∧ t.clc.line = .active) ∨
    (s.clc.line = .active ∧ s.clc.idleCount = some 1 ∧ (t.clc.line = .listen ∨ t.clc.line = .rising)) ∨
    ((c = .stopLine ∨ c.isReset = true) ∧ t.clc.line = .dormant)

/-- Outside DORMANT no command but a reset changes a locked register (R194). -/
def Claim.LockHoldsOutsideDormant : Prop :=
  ∀ (c : Instr) (s t : State), exec c s = .next t → s.clc.line ≠ .dormant → c ≠ .powerOnReset →
    c ≠ .pinReset → t.cfg = s.cfg

/-- How the line state moves, and the configuration lock. -/
def Obligations.LineStateAndLock : Prop :=
  Claim.LineStateMovesByTable13 ∧ Claim.LockHoldsOutsideDormant

/-- Records join at the end and leave from the front or all together (R90). -/
def Obligations.RecordsKeepCommitOrder : Prop :=
  ∀ (c : Instr) (s t : State), c.wf = true → exec c s = .next t →
    t.rxq.records = s.rxq.records ∨ (∃ r, t.rxq.records = s.rxq.records ++ [r]) ∨
    (c = .releaseHead ∧ t.rxq.records = s.rxq.records.tail) ∨
    ((c = .flushQueue ∨ c.isReset = true) ∧ t.rxq.records = [])

/-- A live counter never decreases but to zero by SNAPSHOT COUNTERS, SOFT RESET or reset (R183), SOFT RESET
with the late increments taken after it (R187; notes/assumptions/24.md). -/
def Claim.CountersFallOnlyToZero : Prop :=
  ∀ (c : Instr) (s t : State) (k : Counter), c.wf = true → s.ctb.live.get k ≤ 65535 → exec c s = .next t →
    s.ctb.live.get k ≤ t.ctb.live.get k ∨
    (c ∈ [.snapshotCounters, .powerOnReset, .pinReset] ∧ t.ctb.live.get k = 0) ∨
    (c = .softReset ∧ t.ctb.live.get k = min (s.spi.late.counts.count k) (s.ctb.live.get k))

/-- A pending flag is cleared only by a write of one to it, SOFT RESET or reset (R149). -/
def Claim.FlagsStayUntilCleared : Prop :=
  ∀ (c : Instr) (s t : State) (f : Flag), c.wf = true → exec c s = .next t → f.isIn s.nwc.flags = true →
    f.isIn t.nwc.flags = true ∨
    (∃ high v, c = .pendingClear high v ∧ f.bit / 8 = (if high then 1 else 0) ∧ v.getLsbD (f.bit % 8) = true) ∨
    c.isReset = true

/-- What counters and pending flags lose, and by what. -/
def Obligations.CountersAndFlagsStay : Prop :=
  Claim.CountersFallOnlyToZero ∧ Claim.FlagsStayUntilCleared
end

