-- ==== Sys2Proof/Laws/State.lean ====
section
/-! SUPPORT. One lemma for each field of State under each replacement of a block. -/

namespace Sys2Proof.Machine

variable (s : State)

@[simp] theorem State.withLrx_lrx (v : Bool) : (s.withLrx v).lrx = v := rfl
@[simp] theorem State.withLrx_inReset (v : Bool) : (s.withLrx v).inReset = s.inReset := rfl
@[simp] theorem State.withLrx_cfg (v : Bool) : (s.withLrx v).cfg = s.cfg := rfl
@[simp] theorem State.withLrx_tkg (v : Bool) : (s.withLrx v).tkg = s.tkg := rfl
@[simp] theorem State.withLrx_clc (v : Bool) : (s.withLrx v).clc = s.clc := rfl
@[simp] theorem State.withLrx_lrv (v : Bool) : (s.withLrx v).lrv = s.lrv := rfl
@[simp] theorem State.withLrx_srt (v : Bool) : (s.withLrx v).srt = s.srt := rfl
@[simp] theorem State.withLrx_acf (v : Bool) : (s.withLrx v).acf = s.acf := rfl
@[simp] theorem State.withLrx_rxq (v : Bool) : (s.withLrx v).rxq = s.rxq := rfl
@[simp] theorem State.withLrx_lvs (v : Bool) : (s.withLrx v).lvs = s.lvs := rfl
@[simp] theorem State.withLrx_rsp (v : Bool) : (s.withLrx v).rsp = s.rsp := rfl
@[simp] theorem State.withLrx_nwc (v : Bool) : (s.withLrx v).nwc = s.nwc := rfl
@[simp] theorem State.withLrx_cmu (v : Bool) : (s.withLrx v).cmu = s.cmu := rfl
@[simp] theorem State.withLrx_ctb (v : Bool) : (s.withLrx v).ctb = s.ctb := rfl
@[simp] theorem State.withLrx_spi (v : Bool) : (s.withLrx v).spi = s.spi := rfl
@[simp] theorem State.withLrx_pending (v : Bool) : (s.withLrx v).pending = s.pending := rfl
@[simp] theorem State.withInReset_lrx (v : Bool) : (s.withInReset v).lrx = s.lrx := rfl
@[simp] theorem State.withInReset_inReset (v : Bool) : (s.withInReset v).inReset = v := rfl
@[simp] theorem State.withInReset_cfg (v : Bool) : (s.withInReset v).cfg = s.cfg := rfl
@[simp] theorem State.withInReset_tkg (v : Bool) : (s.withInReset v).tkg = s.tkg := rfl
@[simp] theorem State.withInReset_clc (v : Bool) : (s.withInReset v).clc = s.clc := rfl
@[simp] theorem State.withInReset_lrv (v : Bool) : (s.withInReset v).lrv = s.lrv := rfl
@[simp] theorem State.withInReset_srt (v : Bool) : (s.withInReset v).srt = s.srt := rfl
@[simp] theorem State.withInReset_acf (v : Bool) : (s.withInReset v).acf = s.acf := rfl
@[simp] theorem State.withInReset_rxq (v : Bool) : (s.withInReset v).rxq = s.rxq := rfl
@[simp] theorem State.withInReset_lvs (v : Bool) : (s.withInReset v).lvs = s.lvs := rfl
@[simp] theorem State.withInReset_rsp (v : Bool) : (s.withInReset v).rsp = s.rsp := rfl
@[simp] theorem State.withInReset_nwc (v : Bool) : (s.withInReset v).nwc = s.nwc := rfl
@[simp] theorem State.withInReset_cmu (v : Bool) : (s.withInReset v).cmu = s.cmu := rfl
@[simp] theorem State.withInReset_ctb (v : Bool) : (s.withInReset v).ctb = s.ctb := rfl
@[simp] theorem State.withInReset_spi (v : Bool) : (s.withInReset v).spi = s.spi := rfl
@[simp] theorem State.withInReset_pending (v : Bool) : (s.withInReset v).pending = s.pending := rfl
@[simp] theorem State.withCfg_lrx (v : LockedConfig) : (s.withCfg v).lrx = s.lrx := rfl
@[simp] theorem State.withCfg_inReset (v : LockedConfig) : (s.withCfg v).inReset = s.inReset := rfl
@[simp] theorem State.withCfg_cfg (v : LockedConfig) : (s.withCfg v).cfg = v := rfl
@[simp] theorem State.withCfg_tkg (v : LockedConfig) : (s.withCfg v).tkg = s.tkg := rfl
@[simp] theorem State.withCfg_clc (v : LockedConfig) : (s.withCfg v).clc = s.clc := rfl
@[simp] theorem State.withCfg_lrv (v : LockedConfig) : (s.withCfg v).lrv = s.lrv := rfl
@[simp] theorem State.withCfg_srt (v : LockedConfig) : (s.withCfg v).srt = s.srt := rfl
@[simp] theorem State.withCfg_acf (v : LockedConfig) : (s.withCfg v).acf = s.acf := rfl
@[simp] theorem State.withCfg_rxq (v : LockedConfig) : (s.withCfg v).rxq = s.rxq := rfl
@[simp] theorem State.withCfg_lvs (v : LockedConfig) : (s.withCfg v).lvs = s.lvs := rfl
@[simp] theorem State.withCfg_rsp (v : LockedConfig) : (s.withCfg v).rsp = s.rsp := rfl
@[simp] theorem State.withCfg_nwc (v : LockedConfig) : (s.withCfg v).nwc = s.nwc := rfl
@[simp] theorem State.withCfg_cmu (v : LockedConfig) : (s.withCfg v).cmu = s.cmu := rfl
@[simp] theorem State.withCfg_ctb (v : LockedConfig) : (s.withCfg v).ctb = s.ctb := rfl
@[simp] theorem State.withCfg_spi (v : LockedConfig) : (s.withCfg v).spi = s.spi := rfl
@[simp] theorem State.withCfg_pending (v : LockedConfig) : (s.withCfg v).pending = s.pending := rfl
@[simp] theorem State.withTkg_lrx (v : Tkg) : (s.withTkg v).lrx = s.lrx := rfl
@[simp] theorem State.withTkg_inReset (v : Tkg) : (s.withTkg v).inReset = s.inReset := rfl
@[simp] theorem State.withTkg_cfg (v : Tkg) : (s.withTkg v).cfg = s.cfg := rfl
@[simp] theorem State.withTkg_tkg (v : Tkg) : (s.withTkg v).tkg = v := rfl
@[simp] theorem State.withTkg_clc (v : Tkg) : (s.withTkg v).clc = s.clc := rfl
@[simp] theorem State.withTkg_lrv (v : Tkg) : (s.withTkg v).lrv = s.lrv := rfl
@[simp] theorem State.withTkg_srt (v : Tkg) : (s.withTkg v).srt = s.srt := rfl
@[simp] theorem State.withTkg_acf (v : Tkg) : (s.withTkg v).acf = s.acf := rfl
@[simp] theorem State.withTkg_rxq (v : Tkg) : (s.withTkg v).rxq = s.rxq := rfl
@[simp] theorem State.withTkg_lvs (v : Tkg) : (s.withTkg v).lvs = s.lvs := rfl
@[simp] theorem State.withTkg_rsp (v : Tkg) : (s.withTkg v).rsp = s.rsp := rfl
@[simp] theorem State.withTkg_nwc (v : Tkg) : (s.withTkg v).nwc = s.nwc := rfl
@[simp] theorem State.withTkg_cmu (v : Tkg) : (s.withTkg v).cmu = s.cmu := rfl
@[simp] theorem State.withTkg_ctb (v : Tkg) : (s.withTkg v).ctb = s.ctb := rfl
@[simp] theorem State.withTkg_spi (v : Tkg) : (s.withTkg v).spi = s.spi := rfl
@[simp] theorem State.withTkg_pending (v : Tkg) : (s.withTkg v).pending = s.pending := rfl
@[simp] theorem State.withClc_lrx (v : Clc) : (s.withClc v).lrx = s.lrx := rfl
@[simp] theorem State.withClc_inReset (v : Clc) : (s.withClc v).inReset = s.inReset := rfl
@[simp] theorem State.withClc_cfg (v : Clc) : (s.withClc v).cfg = s.cfg := rfl
@[simp] theorem State.withClc_tkg (v : Clc) : (s.withClc v).tkg = s.tkg := rfl
@[simp] theorem State.withClc_clc (v : Clc) : (s.withClc v).clc = v := rfl
@[simp] theorem State.withClc_lrv (v : Clc) : (s.withClc v).lrv = s.lrv := rfl
@[simp] theorem State.withClc_srt (v : Clc) : (s.withClc v).srt = s.srt := rfl
@[simp] theorem State.withClc_acf (v : Clc) : (s.withClc v).acf = s.acf := rfl
@[simp] theorem State.withClc_rxq (v : Clc) : (s.withClc v).rxq = s.rxq := rfl
@[simp] theorem State.withClc_lvs (v : Clc) : (s.withClc v).lvs = s.lvs := rfl
@[simp] theorem State.withClc_rsp (v : Clc) : (s.withClc v).rsp = s.rsp := rfl
@[simp] theorem State.withClc_nwc (v : Clc) : (s.withClc v).nwc = s.nwc := rfl
@[simp] theorem State.withClc_cmu (v : Clc) : (s.withClc v).cmu = s.cmu := rfl
@[simp] theorem State.withClc_ctb (v : Clc) : (s.withClc v).ctb = s.ctb := rfl
@[simp] theorem State.withClc_spi (v : Clc) : (s.withClc v).spi = s.spi := rfl
@[simp] theorem State.withClc_pending (v : Clc) : (s.withClc v).pending = s.pending := rfl
@[simp] theorem State.withLrv_lrx (v : Lrv) : (s.withLrv v).lrx = s.lrx := rfl
@[simp] theorem State.withLrv_inReset (v : Lrv) : (s.withLrv v).inReset = s.inReset := rfl
@[simp] theorem State.withLrv_cfg (v : Lrv) : (s.withLrv v).cfg = s.cfg := rfl
@[simp] theorem State.withLrv_tkg (v : Lrv) : (s.withLrv v).tkg = s.tkg := rfl
@[simp] theorem State.withLrv_clc (v : Lrv) : (s.withLrv v).clc = s.clc := rfl
@[simp] theorem State.withLrv_lrv (v : Lrv) : (s.withLrv v).lrv = v := rfl
@[simp] theorem State.withLrv_srt (v : Lrv) : (s.withLrv v).srt = s.srt := rfl
@[simp] theorem State.withLrv_acf (v : Lrv) : (s.withLrv v).acf = s.acf := rfl
@[simp] theorem State.withLrv_rxq (v : Lrv) : (s.withLrv v).rxq = s.rxq := rfl
@[simp] theorem State.withLrv_lvs (v : Lrv) : (s.withLrv v).lvs = s.lvs := rfl
@[simp] theorem State.withLrv_rsp (v : Lrv) : (s.withLrv v).rsp = s.rsp := rfl
@[simp] theorem State.withLrv_nwc (v : Lrv) : (s.withLrv v).nwc = s.nwc := rfl
@[simp] theorem State.withLrv_cmu (v : Lrv) : (s.withLrv v).cmu = s.cmu := rfl
@[simp] theorem State.withLrv_ctb (v : Lrv) : (s.withLrv v).ctb = s.ctb := rfl
@[simp] theorem State.withLrv_spi (v : Lrv) : (s.withLrv v).spi = s.spi := rfl
@[simp] theorem State.withLrv_pending (v : Lrv) : (s.withLrv v).pending = s.pending := rfl
@[simp] theorem State.withSrt_lrx (v : Srt) : (s.withSrt v).lrx = s.lrx := rfl
@[simp] theorem State.withSrt_inReset (v : Srt) : (s.withSrt v).inReset = s.inReset := rfl
@[simp] theorem State.withSrt_cfg (v : Srt) : (s.withSrt v).cfg = s.cfg := rfl
@[simp] theorem State.withSrt_tkg (v : Srt) : (s.withSrt v).tkg = s.tkg := rfl
@[simp] theorem State.withSrt_clc (v : Srt) : (s.withSrt v).clc = s.clc := rfl
@[simp] theorem State.withSrt_lrv (v : Srt) : (s.withSrt v).lrv = s.lrv := rfl
@[simp] theorem State.withSrt_srt (v : Srt) : (s.withSrt v).srt = v := rfl
@[simp] theorem State.withSrt_acf (v : Srt) : (s.withSrt v).acf = s.acf := rfl
@[simp] theorem State.withSrt_rxq (v : Srt) : (s.withSrt v).rxq = s.rxq := rfl
@[simp] theorem State.withSrt_lvs (v : Srt) : (s.withSrt v).lvs = s.lvs := rfl
@[simp] theorem State.withSrt_rsp (v : Srt) : (s.withSrt v).rsp = s.rsp := rfl
@[simp] theorem State.withSrt_nwc (v : Srt) : (s.withSrt v).nwc = s.nwc := rfl
@[simp] theorem State.withSrt_cmu (v : Srt) : (s.withSrt v).cmu = s.cmu := rfl
@[simp] theorem State.withSrt_ctb (v : Srt) : (s.withSrt v).ctb = s.ctb := rfl
@[simp] theorem State.withSrt_spi (v : Srt) : (s.withSrt v).spi = s.spi := rfl
@[simp] theorem State.withSrt_pending (v : Srt) : (s.withSrt v).pending = s.pending := rfl
@[simp] theorem State.withAcf_lrx (v : Acf) : (s.withAcf v).lrx = s.lrx := rfl
@[simp] theorem State.withAcf_inReset (v : Acf) : (s.withAcf v).inReset = s.inReset := rfl
@[simp] theorem State.withAcf_cfg (v : Acf) : (s.withAcf v).cfg = s.cfg := rfl
@[simp] theorem State.withAcf_tkg (v : Acf) : (s.withAcf v).tkg = s.tkg := rfl
@[simp] theorem State.withAcf_clc (v : Acf) : (s.withAcf v).clc = s.clc := rfl
@[simp] theorem State.withAcf_lrv (v : Acf) : (s.withAcf v).lrv = s.lrv := rfl
@[simp] theorem State.withAcf_srt (v : Acf) : (s.withAcf v).srt = s.srt := rfl
@[simp] theorem State.withAcf_acf (v : Acf) : (s.withAcf v).acf = v := rfl
@[simp] theorem State.withAcf_rxq (v : Acf) : (s.withAcf v).rxq = s.rxq := rfl
@[simp] theorem State.withAcf_lvs (v : Acf) : (s.withAcf v).lvs = s.lvs := rfl
@[simp] theorem State.withAcf_rsp (v : Acf) : (s.withAcf v).rsp = s.rsp := rfl
@[simp] theorem State.withAcf_nwc (v : Acf) : (s.withAcf v).nwc = s.nwc := rfl
@[simp] theorem State.withAcf_cmu (v : Acf) : (s.withAcf v).cmu = s.cmu := rfl
@[simp] theorem State.withAcf_ctb (v : Acf) : (s.withAcf v).ctb = s.ctb := rfl
@[simp] theorem State.withAcf_spi (v : Acf) : (s.withAcf v).spi = s.spi := rfl
@[simp] theorem State.withAcf_pending (v : Acf) : (s.withAcf v).pending = s.pending := rfl
@[simp] theorem State.withRxq_lrx (v : Rxq) : (s.withRxq v).lrx = s.lrx := rfl
@[simp] theorem State.withRxq_inReset (v : Rxq) : (s.withRxq v).inReset = s.inReset := rfl
@[simp] theorem State.withRxq_cfg (v : Rxq) : (s.withRxq v).cfg = s.cfg := rfl
@[simp] theorem State.withRxq_tkg (v : Rxq) : (s.withRxq v).tkg = s.tkg := rfl
@[simp] theorem State.withRxq_clc (v : Rxq) : (s.withRxq v).clc = s.clc := rfl
@[simp] theorem State.withRxq_lrv (v : Rxq) : (s.withRxq v).lrv = s.lrv := rfl
@[simp] theorem State.withRxq_srt (v : Rxq) : (s.withRxq v).srt = s.srt := rfl
@[simp] theorem State.withRxq_acf (v : Rxq) : (s.withRxq v).acf = s.acf := rfl
@[simp] theorem State.withRxq_rxq (v : Rxq) : (s.withRxq v).rxq = v := rfl
@[simp] theorem State.withRxq_lvs (v : Rxq) : (s.withRxq v).lvs = s.lvs := rfl
@[simp] theorem State.withRxq_rsp (v : Rxq) : (s.withRxq v).rsp = s.rsp := rfl
@[simp] theorem State.withRxq_nwc (v : Rxq) : (s.withRxq v).nwc = s.nwc := rfl
@[simp] theorem State.withRxq_cmu (v : Rxq) : (s.withRxq v).cmu = s.cmu := rfl
@[simp] theorem State.withRxq_ctb (v : Rxq) : (s.withRxq v).ctb = s.ctb := rfl
@[simp] theorem State.withRxq_spi (v : Rxq) : (s.withRxq v).spi = s.spi := rfl
@[simp] theorem State.withRxq_pending (v : Rxq) : (s.withRxq v).pending = s.pending := rfl
@[simp] theorem State.withLvs_lrx (v : Lvs) : (s.withLvs v).lrx = s.lrx := rfl
@[simp] theorem State.withLvs_inReset (v : Lvs) : (s.withLvs v).inReset = s.inReset := rfl
@[simp] theorem State.withLvs_cfg (v : Lvs) : (s.withLvs v).cfg = s.cfg := rfl
@[simp] theorem State.withLvs_tkg (v : Lvs) : (s.withLvs v).tkg = s.tkg := rfl
@[simp] theorem State.withLvs_clc (v : Lvs) : (s.withLvs v).clc = s.clc := rfl
@[simp] theorem State.withLvs_lrv (v : Lvs) : (s.withLvs v).lrv = s.lrv := rfl
@[simp] theorem State.withLvs_srt (v : Lvs) : (s.withLvs v).srt = s.srt := rfl
@[simp] theorem State.withLvs_acf (v : Lvs) : (s.withLvs v).acf = s.acf := rfl
@[simp] theorem State.withLvs_rxq (v : Lvs) : (s.withLvs v).rxq = s.rxq := rfl
@[simp] theorem State.withLvs_lvs (v : Lvs) : (s.withLvs v).lvs = v := rfl
@[simp] theorem State.withLvs_rsp (v : Lvs) : (s.withLvs v).rsp = s.rsp := rfl
@[simp] theorem State.withLvs_nwc (v : Lvs) : (s.withLvs v).nwc = s.nwc := rfl
@[simp] theorem State.withLvs_cmu (v : Lvs) : (s.withLvs v).cmu = s.cmu := rfl
@[simp] theorem State.withLvs_ctb (v : Lvs) : (s.withLvs v).ctb = s.ctb := rfl
@[simp] theorem State.withLvs_spi (v : Lvs) : (s.withLvs v).spi = s.spi := rfl
@[simp] theorem State.withLvs_pending (v : Lvs) : (s.withLvs v).pending = s.pending := rfl
@[simp] theorem State.withRsp_lrx (v : Rsp) : (s.withRsp v).lrx = s.lrx := rfl
@[simp] theorem State.withRsp_inReset (v : Rsp) : (s.withRsp v).inReset = s.inReset := rfl
@[simp] theorem State.withRsp_cfg (v : Rsp) : (s.withRsp v).cfg = s.cfg := rfl
@[simp] theorem State.withRsp_tkg (v : Rsp) : (s.withRsp v).tkg = s.tkg := rfl
@[simp] theorem State.withRsp_clc (v : Rsp) : (s.withRsp v).clc = s.clc := rfl
@[simp] theorem State.withRsp_lrv (v : Rsp) : (s.withRsp v).lrv = s.lrv := rfl
@[simp] theorem State.withRsp_srt (v : Rsp) : (s.withRsp v).srt = s.srt := rfl
@[simp] theorem State.withRsp_acf (v : Rsp) : (s.withRsp v).acf = s.acf := rfl
@[simp] theorem State.withRsp_rxq (v : Rsp) : (s.withRsp v).rxq = s.rxq := rfl
@[simp] theorem State.withRsp_lvs (v : Rsp) : (s.withRsp v).lvs = s.lvs := rfl
@[simp] theorem State.withRsp_rsp (v : Rsp) : (s.withRsp v).rsp = v := rfl
@[simp] theorem State.withRsp_nwc (v : Rsp) : (s.withRsp v).nwc = s.nwc := rfl
@[simp] theorem State.withRsp_cmu (v : Rsp) : (s.withRsp v).cmu = s.cmu := rfl
@[simp] theorem State.withRsp_ctb (v : Rsp) : (s.withRsp v).ctb = s.ctb := rfl
@[simp] theorem State.withRsp_spi (v : Rsp) : (s.withRsp v).spi = s.spi := rfl
@[simp] theorem State.withRsp_pending (v : Rsp) : (s.withRsp v).pending = s.pending := rfl
@[simp] theorem State.withNwc_lrx (v : Nwc) : (s.withNwc v).lrx = s.lrx := rfl
@[simp] theorem State.withNwc_inReset (v : Nwc) : (s.withNwc v).inReset = s.inReset := rfl
@[simp] theorem State.withNwc_cfg (v : Nwc) : (s.withNwc v).cfg = s.cfg := rfl
@[simp] theorem State.withNwc_tkg (v : Nwc) : (s.withNwc v).tkg = s.tkg := rfl
@[simp] theorem State.withNwc_clc (v : Nwc) : (s.withNwc v).clc = s.clc := rfl
@[simp] theorem State.withNwc_lrv (v : Nwc) : (s.withNwc v).lrv = s.lrv := rfl
@[simp] theorem State.withNwc_srt (v : Nwc) : (s.withNwc v).srt = s.srt := rfl
@[simp] theorem State.withNwc_acf (v : Nwc) : (s.withNwc v).acf = s.acf := rfl
@[simp] theorem State.withNwc_rxq (v : Nwc) : (s.withNwc v).rxq = s.rxq := rfl
@[simp] theorem State.withNwc_lvs (v : Nwc) : (s.withNwc v).lvs = s.lvs := rfl
@[simp] theorem State.withNwc_rsp (v : Nwc) : (s.withNwc v).rsp = s.rsp := rfl
@[simp] theorem State.withNwc_nwc (v : Nwc) : (s.withNwc v).nwc = v := rfl
@[simp] theorem State.withNwc_cmu (v : Nwc) : (s.withNwc v).cmu = s.cmu := rfl
@[simp] theorem State.withNwc_ctb (v : Nwc) : (s.withNwc v).ctb = s.ctb := rfl
@[simp] theorem State.withNwc_spi (v : Nwc) : (s.withNwc v).spi = s.spi := rfl
@[simp] theorem State.withNwc_pending (v : Nwc) : (s.withNwc v).pending = s.pending := rfl
@[simp] theorem State.withCmu_lrx (v : Cmu) : (s.withCmu v).lrx = s.lrx := rfl
@[simp] theorem State.withCmu_inReset (v : Cmu) : (s.withCmu v).inReset = s.inReset := rfl
@[simp] theorem State.withCmu_cfg (v : Cmu) : (s.withCmu v).cfg = s.cfg := rfl
@[simp] theorem State.withCmu_tkg (v : Cmu) : (s.withCmu v).tkg = s.tkg := rfl
@[simp] theorem State.withCmu_clc (v : Cmu) : (s.withCmu v).clc = s.clc := rfl
@[simp] theorem State.withCmu_lrv (v : Cmu) : (s.withCmu v).lrv = s.lrv := rfl
@[simp] theorem State.withCmu_srt (v : Cmu) : (s.withCmu v).srt = s.srt := rfl
@[simp] theorem State.withCmu_acf (v : Cmu) : (s.withCmu v).acf = s.acf := rfl
@[simp] theorem State.withCmu_rxq (v : Cmu) : (s.withCmu v).rxq = s.rxq := rfl
@[simp] theorem State.withCmu_lvs (v : Cmu) : (s.withCmu v).lvs = s.lvs := rfl
@[simp] theorem State.withCmu_rsp (v : Cmu) : (s.withCmu v).rsp = s.rsp := rfl
@[simp] theorem State.withCmu_nwc (v : Cmu) : (s.withCmu v).nwc = s.nwc := rfl
@[simp] theorem State.withCmu_cmu (v : Cmu) : (s.withCmu v).cmu = v := rfl
@[simp] theorem State.withCmu_ctb (v : Cmu) : (s.withCmu v).ctb = s.ctb := rfl
@[simp] theorem State.withCmu_spi (v : Cmu) : (s.withCmu v).spi = s.spi := rfl
@[simp] theorem State.withCmu_pending (v : Cmu) : (s.withCmu v).pending = s.pending := rfl
@[simp] theorem State.withCtb_lrx (v : Ctb) : (s.withCtb v).lrx = s.lrx := rfl
@[simp] theorem State.withCtb_inReset (v : Ctb) : (s.withCtb v).inReset = s.inReset := rfl
@[simp] theorem State.withCtb_cfg (v : Ctb) : (s.withCtb v).cfg = s.cfg := rfl
@[simp] theorem State.withCtb_tkg (v : Ctb) : (s.withCtb v).tkg = s.tkg := rfl
@[simp] theorem State.withCtb_clc (v : Ctb) : (s.withCtb v).clc = s.clc := rfl
@[simp] theorem State.withCtb_lrv (v : Ctb) : (s.withCtb v).lrv = s.lrv := rfl
@[simp] theorem State.withCtb_srt (v : Ctb) : (s.withCtb v).srt = s.srt := rfl
@[simp] theorem State.withCtb_acf (v : Ctb) : (s.withCtb v).acf = s.acf := rfl
@[simp] theorem State.withCtb_rxq (v : Ctb) : (s.withCtb v).rxq = s.rxq := rfl
@[simp] theorem State.withCtb_lvs (v : Ctb) : (s.withCtb v).lvs = s.lvs := rfl
@[simp] theorem State.withCtb_rsp (v : Ctb) : (s.withCtb v).rsp = s.rsp := rfl
@[simp] theorem State.withCtb_nwc (v : Ctb) : (s.withCtb v).nwc = s.nwc := rfl
@[simp] theorem State.withCtb_cmu (v : Ctb) : (s.withCtb v).cmu = s.cmu := rfl
@[simp] theorem State.withCtb_ctb (v : Ctb) : (s.withCtb v).ctb = v := rfl
@[simp] theorem State.withCtb_spi (v : Ctb) : (s.withCtb v).spi = s.spi := rfl
@[simp] theorem State.withCtb_pending (v : Ctb) : (s.withCtb v).pending = s.pending := rfl
@[simp] theorem State.withSpi_lrx (v : Spi) : (s.withSpi v).lrx = s.lrx := rfl
@[simp] theorem State.withSpi_inReset (v : Spi) : (s.withSpi v).inReset = s.inReset := rfl
@[simp] theorem State.withSpi_cfg (v : Spi) : (s.withSpi v).cfg = s.cfg := rfl
@[simp] theorem State.withSpi_tkg (v : Spi) : (s.withSpi v).tkg = s.tkg := rfl
@[simp] theorem State.withSpi_clc (v : Spi) : (s.withSpi v).clc = s.clc := rfl
@[simp] theorem State.withSpi_lrv (v : Spi) : (s.withSpi v).lrv = s.lrv := rfl
@[simp] theorem State.withSpi_srt (v : Spi) : (s.withSpi v).srt = s.srt := rfl
@[simp] theorem State.withSpi_acf (v : Spi) : (s.withSpi v).acf = s.acf := rfl
@[simp] theorem State.withSpi_rxq (v : Spi) : (s.withSpi v).rxq = s.rxq := rfl
@[simp] theorem State.withSpi_lvs (v : Spi) : (s.withSpi v).lvs = s.lvs := rfl
@[simp] theorem State.withSpi_rsp (v : Spi) : (s.withSpi v).rsp = s.rsp := rfl
@[simp] theorem State.withSpi_nwc (v : Spi) : (s.withSpi v).nwc = s.nwc := rfl
@[simp] theorem State.withSpi_cmu (v : Spi) : (s.withSpi v).cmu = s.cmu := rfl
@[simp] theorem State.withSpi_ctb (v : Spi) : (s.withSpi v).ctb = s.ctb := rfl
@[simp] theorem State.withSpi_spi (v : Spi) : (s.withSpi v).spi = v := rfl
@[simp] theorem State.withSpi_pending (v : Spi) : (s.withSpi v).pending = s.pending := rfl
@[simp] theorem State.withPending_lrx (v : List Instr) : (s.withPending v).lrx = s.lrx := rfl
@[simp] theorem State.withPending_inReset (v : List Instr) : (s.withPending v).inReset = s.inReset := rfl
@[simp] theorem State.withPending_cfg (v : List Instr) : (s.withPending v).cfg = s.cfg := rfl
@[simp] theorem State.withPending_tkg (v : List Instr) : (s.withPending v).tkg = s.tkg := rfl
@[simp] theorem State.withPending_clc (v : List Instr) : (s.withPending v).clc = s.clc := rfl
@[simp] theorem State.withPending_lrv (v : List Instr) : (s.withPending v).lrv = s.lrv := rfl
@[simp] theorem State.withPending_srt (v : List Instr) : (s.withPending v).srt = s.srt := rfl
@[simp] theorem State.withPending_acf (v : List Instr) : (s.withPending v).acf = s.acf := rfl
@[simp] theorem State.withPending_rxq (v : List Instr) : (s.withPending v).rxq = s.rxq := rfl
@[simp] theorem State.withPending_lvs (v : List Instr) : (s.withPending v).lvs = s.lvs := rfl
@[simp] theorem State.withPending_rsp (v : List Instr) : (s.withPending v).rsp = s.rsp := rfl
@[simp] theorem State.withPending_nwc (v : List Instr) : (s.withPending v).nwc = s.nwc := rfl
@[simp] theorem State.withPending_cmu (v : List Instr) : (s.withPending v).cmu = s.cmu := rfl
@[simp] theorem State.withPending_ctb (v : List Instr) : (s.withPending v).ctb = s.ctb := rfl
@[simp] theorem State.withPending_spi (v : List Instr) : (s.withPending v).spi = s.spi := rfl
@[simp] theorem State.withPending_pending (v : List Instr) : (s.withPending v).pending = v := rfl

end Sys2Proof.Machine
end

