-- ==== Sys2Proof/Laws/Ops.lean ====
section
/-! SUPPORT. What the shared operations leave unchanged, one lemma each, as equations of the blocks they do not touch. -/

namespace Sys2Proof.Machine

variable (s : State)

/-- raise changes nothing of the part but nwc. -/
@[simp] theorem raise_frame (f : Flag) :
    (raise f s).lrx = s.lrx ∧ (raise f s).inReset = s.inReset ∧ (raise f s).cfg = s.cfg ∧
      (raise f s).tkg = s.tkg ∧ (raise f s).clc = s.clc ∧ (raise f s).lrv = s.lrv ∧
      (raise f s).srt = s.srt ∧ (raise f s).acf = s.acf ∧ (raise f s).rxq = s.rxq ∧
      (raise f s).lvs = s.lvs ∧ (raise f s).rsp = s.rsp ∧ (raise f s).cmu = s.cmu ∧
      (raise f s).ctb = s.ctb ∧ (raise f s).spi = s.spi ∧ (raise f s).pending = s.pending := by
  unfold raise; simp

/-- countBy changes nothing of the part but ctb, nwc. -/
@[simp] theorem countBy_frame (k : Counter) (n : Nat) :
    (countBy k n s).lrx = s.lrx ∧ (countBy k n s).inReset = s.inReset ∧ (countBy k n s).cfg = s.cfg ∧
      (countBy k n s).tkg = s.tkg ∧ (countBy k n s).clc = s.clc ∧ (countBy k n s).lrv = s.lrv ∧
      (countBy k n s).srt = s.srt ∧ (countBy k n s).acf = s.acf ∧ (countBy k n s).rxq = s.rxq ∧
      (countBy k n s).lvs = s.lvs ∧ (countBy k n s).rsp = s.rsp ∧ (countBy k n s).cmu = s.cmu ∧
      (countBy k n s).spi = s.spi ∧ (countBy k n s).pending = s.pending := by
  unfold countBy; and_intros <;> (try dsimp only) <;> (repeat' split) <;> simp

/-- count changes nothing of the part but ctb, nwc. -/
@[simp] theorem count_frame (k : Counter) :
    (count k s).lrx = s.lrx ∧ (count k s).inReset = s.inReset ∧ (count k s).cfg = s.cfg ∧
      (count k s).tkg = s.tkg ∧ (count k s).clc = s.clc ∧ (count k s).lrv = s.lrv ∧
      (count k s).srt = s.srt ∧ (count k s).acf = s.acf ∧ (count k s).rxq = s.rxq ∧
      (count k s).lvs = s.lvs ∧ (count k s).rsp = s.rsp ∧ (count k s).cmu = s.cmu ∧
      (count k s).spi = s.spi ∧ (count k s).pending = s.pending := by
  unfold count; simp

/-- complete changes nothing of the part but cmu, nwc. -/
@[simp] theorem complete_frame (r : CmdResult) :
    (complete r s).lrx = s.lrx ∧ (complete r s).inReset = s.inReset ∧ (complete r s).cfg = s.cfg ∧
      (complete r s).tkg = s.tkg ∧ (complete r s).clc = s.clc ∧ (complete r s).lrv = s.lrv ∧
      (complete r s).srt = s.srt ∧ (complete r s).acf = s.acf ∧ (complete r s).rxq = s.rxq ∧
      (complete r s).lvs = s.lvs ∧ (complete r s).rsp = s.rsp ∧ (complete r s).ctb = s.ctb ∧
      (complete r s).spi = s.spi ∧ (complete r s).pending = s.pending := by
  unfold complete; and_intros <;> (try dsimp only) <;> (repeat' split) <;> simp

/-- runSource changes nothing of the part but srt, cmu, nwc. -/
@[simp] theorem runSource_frame (f : InFlight) :
    (runSource f s).lrx = s.lrx ∧ (runSource f s).inReset = s.inReset ∧ (runSource f s).cfg = s.cfg ∧
      (runSource f s).tkg = s.tkg ∧ (runSource f s).clc = s.clc ∧ (runSource f s).lrv = s.lrv ∧
      (runSource f s).acf = s.acf ∧ (runSource f s).rxq = s.rxq ∧ (runSource f s).lvs = s.lvs ∧
      (runSource f s).rsp = s.rsp ∧ (runSource f s).ctb = s.ctb ∧ (runSource f s).spi = s.spi ∧
      (runSource f s).pending = s.pending := by
  unfold runSource; simp

/-- runEntry changes nothing of the part but acf, cmu, nwc. -/
@[simp] theorem runEntry_frame (f : InFlight) :
    (runEntry f s).lrx = s.lrx ∧ (runEntry f s).inReset = s.inReset ∧ (runEntry f s).cfg = s.cfg ∧
      (runEntry f s).tkg = s.tkg ∧ (runEntry f s).clc = s.clc ∧ (runEntry f s).lrv = s.lrv ∧
      (runEntry f s).srt = s.srt ∧ (runEntry f s).rxq = s.rxq ∧ (runEntry f s).lvs = s.lvs ∧
      (runEntry f s).rsp = s.rsp ∧ (runEntry f s).ctb = s.ctb ∧ (runEntry f s).spi = s.spi ∧
      (runEntry f s).pending = s.pending := by
  unfold runEntry; simp

/-- sourceTurn changes nothing of the part but srt, cmu, nwc. -/
@[simp] theorem sourceTurn_frame :
    (sourceTurn s).lrx = s.lrx ∧ (sourceTurn s).inReset = s.inReset ∧ (sourceTurn s).cfg = s.cfg ∧
      (sourceTurn s).tkg = s.tkg ∧ (sourceTurn s).clc = s.clc ∧ (sourceTurn s).lrv = s.lrv ∧
      (sourceTurn s).acf = s.acf ∧ (sourceTurn s).rxq = s.rxq ∧ (sourceTurn s).lvs = s.lvs ∧
      (sourceTurn s).rsp = s.rsp ∧ (sourceTurn s).ctb = s.ctb ∧ (sourceTurn s).spi = s.spi ∧
      (sourceTurn s).pending = s.pending := by
  unfold sourceTurn; and_intros <;> (repeat' split) <;> simp

/-- entryTurn changes nothing of the part but acf, cmu, nwc. -/
@[simp] theorem entryTurn_frame :
    (entryTurn s).lrx = s.lrx ∧ (entryTurn s).inReset = s.inReset ∧ (entryTurn s).cfg = s.cfg ∧
      (entryTurn s).tkg = s.tkg ∧ (entryTurn s).clc = s.clc ∧ (entryTurn s).lrv = s.lrv ∧
      (entryTurn s).srt = s.srt ∧ (entryTurn s).rxq = s.rxq ∧ (entryTurn s).lvs = s.lvs ∧
      (entryTurn s).rsp = s.rsp ∧ (entryTurn s).ctb = s.ctb ∧ (entryTurn s).spi = s.spi ∧
      (entryTurn s).pending = s.pending := by
  unfold entryTurn; and_intros <;> (repeat' split) <;> simp

/-- loadIdle changes nothing of the part but clc. -/
@[simp] theorem loadIdle_frame :
    (loadIdle s).lrx = s.lrx ∧ (loadIdle s).inReset = s.inReset ∧ (loadIdle s).cfg = s.cfg ∧
      (loadIdle s).tkg = s.tkg ∧ (loadIdle s).lrv = s.lrv ∧ (loadIdle s).srt = s.srt ∧
      (loadIdle s).acf = s.acf ∧ (loadIdle s).rxq = s.rxq ∧ (loadIdle s).lvs = s.lvs ∧
      (loadIdle s).rsp = s.rsp ∧ (loadIdle s).nwc = s.nwc ∧ (loadIdle s).cmu = s.cmu ∧
      (loadIdle s).ctb = s.ctb ∧ (loadIdle s).spi = s.spi ∧ (loadIdle s).pending = s.pending := by
  unfold loadIdle; simp

/-- syncIdle changes nothing of the part but clc. -/
@[simp] theorem syncIdle_frame :
    (syncIdle s).lrx = s.lrx ∧ (syncIdle s).inReset = s.inReset ∧ (syncIdle s).cfg = s.cfg ∧
      (syncIdle s).tkg = s.tkg ∧ (syncIdle s).lrv = s.lrv ∧ (syncIdle s).srt = s.srt ∧
      (syncIdle s).acf = s.acf ∧ (syncIdle s).rxq = s.rxq ∧ (syncIdle s).lvs = s.lvs ∧
      (syncIdle s).rsp = s.rsp ∧ (syncIdle s).nwc = s.nwc ∧ (syncIdle s).cmu = s.cmu ∧
      (syncIdle s).ctb = s.ctb ∧ (syncIdle s).spi = s.spi ∧ (syncIdle s).pending = s.pending := by
  unfold syncIdle; and_intros <;> (try dsimp only) <;> (repeat' split) <;> simp

/-- enterHunt changes nothing of the part but lrv. -/
@[simp] theorem enterHunt_frame :
    (enterHunt s).lrx = s.lrx ∧ (enterHunt s).inReset = s.inReset ∧ (enterHunt s).cfg = s.cfg ∧
      (enterHunt s).tkg = s.tkg ∧ (enterHunt s).clc = s.clc ∧ (enterHunt s).srt = s.srt ∧
      (enterHunt s).acf = s.acf ∧ (enterHunt s).rxq = s.rxq ∧ (enterHunt s).lvs = s.lvs ∧
      (enterHunt s).rsp = s.rsp ∧ (enterHunt s).nwc = s.nwc ∧ (enterHunt s).cmu = s.cmu ∧
      (enterHunt s).ctb = s.ctb ∧ (enterHunt s).spi = s.spi ∧ (enterHunt s).pending = s.pending := by
  unfold enterHunt; simp

/-- enterSkip changes nothing of the part but lrv. -/
@[simp] theorem enterSkip_frame :
    (enterSkip s).lrx = s.lrx ∧ (enterSkip s).inReset = s.inReset ∧ (enterSkip s).cfg = s.cfg ∧
      (enterSkip s).tkg = s.tkg ∧ (enterSkip s).clc = s.clc ∧ (enterSkip s).srt = s.srt ∧
      (enterSkip s).acf = s.acf ∧ (enterSkip s).rxq = s.rxq ∧ (enterSkip s).lvs = s.lvs ∧
      (enterSkip s).rsp = s.rsp ∧ (enterSkip s).nwc = s.nwc ∧ (enterSkip s).cmu = s.cmu ∧
      (enterSkip s).ctb = s.ctb ∧ (enterSkip s).spi = s.spi ∧ (enterSkip s).pending = s.pending := by
  unfold enterSkip; simp

/-- enterHeader changes nothing of the part but lrv. -/
@[simp] theorem enterHeader_frame :
    (enterHeader s).lrx = s.lrx ∧ (enterHeader s).inReset = s.inReset ∧ (enterHeader s).cfg = s.cfg ∧
      (enterHeader s).tkg = s.tkg ∧ (enterHeader s).clc = s.clc ∧ (enterHeader s).srt = s.srt ∧
      (enterHeader s).acf = s.acf ∧ (enterHeader s).rxq = s.rxq ∧ (enterHeader s).lvs = s.lvs ∧
      (enterHeader s).rsp = s.rsp ∧ (enterHeader s).nwc = s.nwc ∧ (enterHeader s).cmu = s.cmu ∧
      (enterHeader s).ctb = s.ctb ∧ (enterHeader s).spi = s.spi ∧ (enterHeader s).pending = s.pending := by
  unfold enterHeader; simp

/-- noteLevel changes nothing of the part but lrx, lrv. -/
@[simp] theorem noteLevel_frame (level : Bool) :
    (noteLevel level s).inReset = s.inReset ∧ (noteLevel level s).cfg = s.cfg ∧
      (noteLevel level s).tkg = s.tkg ∧ (noteLevel level s).clc = s.clc ∧ (noteLevel level s).srt = s.srt ∧
      (noteLevel level s).acf = s.acf ∧ (noteLevel level s).rxq = s.rxq ∧ (noteLevel level s).lvs = s.lvs ∧
      (noteLevel level s).rsp = s.rsp ∧ (noteLevel level s).nwc = s.nwc ∧ (noteLevel level s).cmu = s.cmu ∧
      (noteLevel level s).ctb = s.ctb ∧ (noteLevel level s).spi = s.spi ∧
      (noteLevel level s).pending = s.pending := by
  unfold noteLevel; and_intros <;> (try dsimp only) <;> (repeat' split) <;> simp

/-- endCharacter changes nothing of the part but lrx, lrv. -/
@[simp] theorem endCharacter_frame (level : Bool) :
    (endCharacter level s).inReset = s.inReset ∧ (endCharacter level s).cfg = s.cfg ∧
      (endCharacter level s).tkg = s.tkg ∧ (endCharacter level s).clc = s.clc ∧
      (endCharacter level s).srt = s.srt ∧ (endCharacter level s).acf = s.acf ∧
      (endCharacter level s).rxq = s.rxq ∧ (endCharacter level s).lvs = s.lvs ∧
      (endCharacter level s).rsp = s.rsp ∧ (endCharacter level s).nwc = s.nwc ∧
      (endCharacter level s).cmu = s.cmu ∧ (endCharacter level s).ctb = s.ctb ∧
      (endCharacter level s).spi = s.spi ∧ (endCharacter level s).pending = s.pending := by
  unfold endCharacter; simp

/-- claimSpace changes nothing of the part but rxq, nwc. -/
@[simp] theorem claimSpace_frame (h : Header) (r : Classified) :
    (claimSpace h r s).lrx = s.lrx ∧ (claimSpace h r s).inReset = s.inReset ∧
      (claimSpace h r s).cfg = s.cfg ∧ (claimSpace h r s).tkg = s.tkg ∧ (claimSpace h r s).clc = s.clc ∧
      (claimSpace h r s).lrv = s.lrv ∧ (claimSpace h r s).srt = s.srt ∧ (claimSpace h r s).acf = s.acf ∧
      (claimSpace h r s).lvs = s.lvs ∧ (claimSpace h r s).rsp = s.rsp ∧ (claimSpace h r s).cmu = s.cmu ∧
      (claimSpace h r s).ctb = s.ctb ∧ (claimSpace h r s).spi = s.spi ∧
      (claimSpace h r s).pending = s.pending := by
  unfold claimSpace; and_intros <;> (try dsimp only) <;> (repeat' split) <;> simp

/-- tellResponder changes nothing of the part but rsp. -/
@[simp] theorem tellResponder_frame (r : Classified) :
    (tellResponder r s).lrx = s.lrx ∧ (tellResponder r s).inReset = s.inReset ∧
      (tellResponder r s).cfg = s.cfg ∧ (tellResponder r s).tkg = s.tkg ∧ (tellResponder r s).clc = s.clc ∧
      (tellResponder r s).lrv = s.lrv ∧ (tellResponder r s).srt = s.srt ∧ (tellResponder r s).acf = s.acf ∧
      (tellResponder r s).rxq = s.rxq ∧ (tellResponder r s).lvs = s.lvs ∧ (tellResponder r s).nwc = s.nwc ∧
      (tellResponder r s).cmu = s.cmu ∧ (tellResponder r s).ctb = s.ctb ∧ (tellResponder r s).spi = s.spi ∧
      (tellResponder r s).pending = s.pending := by
  unfold tellResponder; simp

/-- finishClassification changes nothing of the part but acf, rxq, lvs, rsp, cmu, nwc. -/
@[simp] theorem finishClassification_frame :
    (finishClassification s).lrx = s.lrx ∧ (finishClassification s).inReset = s.inReset ∧
      (finishClassification s).cfg = s.cfg ∧ (finishClassification s).tkg = s.tkg ∧
      (finishClassification s).clc = s.clc ∧ (finishClassification s).lrv = s.lrv ∧
      (finishClassification s).srt = s.srt ∧ (finishClassification s).ctb = s.ctb ∧
      (finishClassification s).spi = s.spi ∧ (finishClassification s).pending = s.pending := by
  unfold finishClassification; and_intros <;> (try dsimp only) <;> (repeat' split) <;> simp

/-- reportRelation changes nothing of the part but ctb, nwc. -/
@[simp] theorem reportRelation_frame (r : Relation) :
    (reportRelation r s).lrx = s.lrx ∧ (reportRelation r s).inReset = s.inReset ∧
      (reportRelation r s).cfg = s.cfg ∧ (reportRelation r s).tkg = s.tkg ∧
      (reportRelation r s).clc = s.clc ∧ (reportRelation r s).lrv = s.lrv ∧
      (reportRelation r s).srt = s.srt ∧ (reportRelation r s).acf = s.acf ∧
      (reportRelation r s).rxq = s.rxq ∧ (reportRelation r s).lvs = s.lvs ∧
      (reportRelation r s).rsp = s.rsp ∧ (reportRelation r s).cmu = s.cmu ∧
      (reportRelation r s).spi = s.spi ∧ (reportRelation r s).pending = s.pending := by
  unfold reportRelation; and_intros <;> (repeat' split) <;> simp

/-- commitSource changes nothing of the part but srt, ctb, nwc. -/
@[simp] theorem commitSource_frame (v : Option Verdict) :
    (commitSource v s).lrx = s.lrx ∧ (commitSource v s).inReset = s.inReset ∧
      (commitSource v s).cfg = s.cfg ∧ (commitSource v s).tkg = s.tkg ∧ (commitSource v s).clc = s.clc ∧
      (commitSource v s).lrv = s.lrv ∧ (commitSource v s).acf = s.acf ∧ (commitSource v s).rxq = s.rxq ∧
      (commitSource v s).lvs = s.lvs ∧ (commitSource v s).rsp = s.rsp ∧ (commitSource v s).cmu = s.cmu ∧
      (commitSource v s).spi = s.spi ∧ (commitSource v s).pending = s.pending := by
  unfold commitSource; and_intros <;> (repeat' split) <;> simp

/-- commitFilter changes nothing of the part but acf, ctb, nwc. -/
@[simp] theorem commitFilter_frame :
    (commitFilter s).lrx = s.lrx ∧ (commitFilter s).inReset = s.inReset ∧ (commitFilter s).cfg = s.cfg ∧
      (commitFilter s).tkg = s.tkg ∧ (commitFilter s).clc = s.clc ∧ (commitFilter s).lrv = s.lrv ∧
      (commitFilter s).srt = s.srt ∧ (commitFilter s).rxq = s.rxq ∧ (commitFilter s).lvs = s.lvs ∧
      (commitFilter s).rsp = s.rsp ∧ (commitFilter s).cmu = s.cmu ∧ (commitFilter s).spi = s.spi ∧
      (commitFilter s).pending = s.pending := by
  unfold commitFilter; and_intros <;> (try dsimp only) <;> (repeat' split) <;> simp

/-- commitQueue changes nothing of the part but rxq, ctb, nwc. -/
@[simp] theorem commitQueue_frame (p : List Byte) :
    (commitQueue p s).lrx = s.lrx ∧ (commitQueue p s).inReset = s.inReset ∧ (commitQueue p s).cfg = s.cfg ∧
      (commitQueue p s).tkg = s.tkg ∧ (commitQueue p s).clc = s.clc ∧ (commitQueue p s).lrv = s.lrv ∧
      (commitQueue p s).srt = s.srt ∧ (commitQueue p s).acf = s.acf ∧ (commitQueue p s).lvs = s.lvs ∧
      (commitQueue p s).rsp = s.rsp ∧ (commitQueue p s).cmu = s.cmu ∧ (commitQueue p s).spi = s.spi ∧
      (commitQueue p s).pending = s.pending := by
  unfold commitQueue; and_intros <;> (try dsimp only) <;> (repeat' split) <;> simp

/-- commitSlot changes nothing of the part but lvs, nwc. -/
@[simp] theorem commitSlot_frame (h : Header) (p : List Byte) :
    (commitSlot h p s).lrx = s.lrx ∧ (commitSlot h p s).inReset = s.inReset ∧
      (commitSlot h p s).cfg = s.cfg ∧ (commitSlot h p s).tkg = s.tkg ∧ (commitSlot h p s).clc = s.clc ∧
      (commitSlot h p s).lrv = s.lrv ∧ (commitSlot h p s).srt = s.srt ∧ (commitSlot h p s).acf = s.acf ∧
      (commitSlot h p s).rxq = s.rxq ∧ (commitSlot h p s).rsp = s.rsp ∧ (commitSlot h p s).cmu = s.cmu ∧
      (commitSlot h p s).ctb = s.ctb ∧ (commitSlot h p s).spi = s.spi ∧
      (commitSlot h p s).pending = s.pending := by
  unfold commitSlot; and_intros <;> (try dsimp only) <;> (repeat' split) <;> simp

/-- commitResponse changes nothing of the part but rsp. -/
@[simp] theorem commitResponse_frame :
    (commitResponse s).lrx = s.lrx ∧ (commitResponse s).inReset = s.inReset ∧
      (commitResponse s).cfg = s.cfg ∧ (commitResponse s).tkg = s.tkg ∧ (commitResponse s).clc = s.clc ∧
      (commitResponse s).lrv = s.lrv ∧ (commitResponse s).srt = s.srt ∧ (commitResponse s).acf = s.acf ∧
      (commitResponse s).rxq = s.rxq ∧ (commitResponse s).lvs = s.lvs ∧ (commitResponse s).nwc = s.nwc ∧
      (commitResponse s).cmu = s.cmu ∧ (commitResponse s).ctb = s.ctb ∧ (commitResponse s).spi = s.spi ∧
      (commitResponse s).pending = s.pending := by
  unfold commitResponse; and_intros <;> (try dsimp only) <;> (repeat' split) <;> simp

/-- commitFrame changes nothing of the part but lrv, srt, acf, rxq, lvs, rsp, nwc, cmu, ctb. -/
@[simp] theorem commitFrame_frame :
    (commitFrame s).lrx = s.lrx ∧ (commitFrame s).inReset = s.inReset ∧ (commitFrame s).cfg = s.cfg ∧
      (commitFrame s).tkg = s.tkg ∧ (commitFrame s).clc = s.clc ∧ (commitFrame s).spi = s.spi ∧
      (commitFrame s).pending = s.pending := by
  unfold commitFrame; simp

/-- abandonFrame changes nothing of the part but lrv, srt, acf, rxq, lvs, rsp. -/
@[simp] theorem abandonFrame_frame :
    (abandonFrame s).lrx = s.lrx ∧ (abandonFrame s).inReset = s.inReset ∧ (abandonFrame s).cfg = s.cfg ∧
      (abandonFrame s).tkg = s.tkg ∧ (abandonFrame s).clc = s.clc ∧ (abandonFrame s).nwc = s.nwc ∧
      (abandonFrame s).cmu = s.cmu ∧ (abandonFrame s).ctb = s.ctb ∧ (abandonFrame s).spi = s.spi ∧
      (abandonFrame s).pending = s.pending := by
  unfold abandonFrame; simp

/-- loseFrame changes nothing of the part but lrv, srt, acf, rxq, lvs, rsp, nwc, cmu. -/
@[simp] theorem loseFrame_frame :
    (loseFrame s).lrx = s.lrx ∧ (loseFrame s).inReset = s.inReset ∧ (loseFrame s).cfg = s.cfg ∧
      (loseFrame s).tkg = s.tkg ∧ (loseFrame s).clc = s.clc ∧ (loseFrame s).ctb = s.ctb ∧
      (loseFrame s).spi = s.spi ∧ (loseFrame s).pending = s.pending := by
  unfold loseFrame; simp

/-- enterRising changes nothing of the part but clc. -/
@[simp] theorem enterRising_frame :
    (enterRising s).lrx = s.lrx ∧ (enterRising s).inReset = s.inReset ∧ (enterRising s).cfg = s.cfg ∧
      (enterRising s).tkg = s.tkg ∧ (enterRising s).lrv = s.lrv ∧ (enterRising s).srt = s.srt ∧
      (enterRising s).acf = s.acf ∧ (enterRising s).rxq = s.rxq ∧ (enterRising s).lvs = s.lvs ∧
      (enterRising s).rsp = s.rsp ∧ (enterRising s).nwc = s.nwc ∧ (enterRising s).cmu = s.cmu ∧
      (enterRising s).ctb = s.ctb ∧ (enterRising s).spi = s.spi ∧ (enterRising s).pending = s.pending := by
  unfold enterRising; simp

/-- enterListen changes nothing of the part but clc. -/
@[simp] theorem enterListen_frame :
    (enterListen s).lrx = s.lrx ∧ (enterListen s).inReset = s.inReset ∧ (enterListen s).cfg = s.cfg ∧
      (enterListen s).tkg = s.tkg ∧ (enterListen s).lrv = s.lrv ∧ (enterListen s).srt = s.srt ∧
      (enterListen s).acf = s.acf ∧ (enterListen s).rxq = s.rxq ∧ (enterListen s).lvs = s.lvs ∧
      (enterListen s).rsp = s.rsp ∧ (enterListen s).nwc = s.nwc ∧ (enterListen s).cmu = s.cmu ∧
      (enterListen s).ctb = s.ctb ∧ (enterListen s).spi = s.spi ∧ (enterListen s).pending = s.pending := by
  unfold enterListen; and_intros <;> (repeat' split) <;> simp

/-- expireIdle changes nothing of the part but clc, lrv. -/
@[simp] theorem expireIdle_frame :
    (expireIdle s).lrx = s.lrx ∧ (expireIdle s).inReset = s.inReset ∧ (expireIdle s).cfg = s.cfg ∧
      (expireIdle s).tkg = s.tkg ∧ (expireIdle s).srt = s.srt ∧ (expireIdle s).acf = s.acf ∧
      (expireIdle s).rxq = s.rxq ∧ (expireIdle s).lvs = s.lvs ∧ (expireIdle s).rsp = s.rsp ∧
      (expireIdle s).nwc = s.nwc ∧ (expireIdle s).cmu = s.cmu ∧ (expireIdle s).ctb = s.ctb ∧
      (expireIdle s).spi = s.spi ∧ (expireIdle s).pending = s.pending := by
  unfold expireIdle; simp

/-- stopTheLine changes nothing of the part but clc, lrv, srt, acf, rxq, lvs, rsp. -/
@[simp] theorem stopTheLine_frame :
    (stopTheLine s).lrx = s.lrx ∧ (stopTheLine s).inReset = s.inReset ∧ (stopTheLine s).cfg = s.cfg ∧
      (stopTheLine s).tkg = s.tkg ∧ (stopTheLine s).nwc = s.nwc ∧ (stopTheLine s).cmu = s.cmu ∧
      (stopTheLine s).ctb = s.ctb ∧ (stopTheLine s).spi = s.spi ∧ (stopTheLine s).pending = s.pending := by
  unfold stopTheLine; simp

/-- tickIdle changes nothing of the part but clc, lrv. -/
@[simp] theorem tickIdle_frame :
    (tickIdle s).lrx = s.lrx ∧ (tickIdle s).inReset = s.inReset ∧ (tickIdle s).cfg = s.cfg ∧
      (tickIdle s).tkg = s.tkg ∧ (tickIdle s).srt = s.srt ∧ (tickIdle s).acf = s.acf ∧
      (tickIdle s).rxq = s.rxq ∧ (tickIdle s).lvs = s.lvs ∧ (tickIdle s).rsp = s.rsp ∧
      (tickIdle s).nwc = s.nwc ∧ (tickIdle s).cmu = s.cmu ∧ (tickIdle s).ctb = s.ctb ∧
      (tickIdle s).spi = s.spi ∧ (tickIdle s).pending = s.pending := by
  unfold tickIdle; and_intros <;> (try dsimp only) <;> (repeat' split) <;> simp

/-- tickSlots changes nothing of the part but lvs, nwc. -/
@[simp] theorem tickSlots_frame :
    (tickSlots s).lrx = s.lrx ∧ (tickSlots s).inReset = s.inReset ∧ (tickSlots s).cfg = s.cfg ∧
      (tickSlots s).tkg = s.tkg ∧ (tickSlots s).clc = s.clc ∧ (tickSlots s).lrv = s.lrv ∧
      (tickSlots s).srt = s.srt ∧ (tickSlots s).acf = s.acf ∧ (tickSlots s).rxq = s.rxq ∧
      (tickSlots s).rsp = s.rsp ∧ (tickSlots s).cmu = s.cmu ∧ (tickSlots s).ctb = s.ctb ∧
      (tickSlots s).spi = s.spi ∧ (tickSlots s).pending = s.pending := by
  unfold tickSlots; and_intros <;> (try dsimp only) <;> (repeat' split) <;> simp

/-- doTick changes nothing of the part but tkg, lvs, nwc, clc, lrv. -/
@[simp] theorem doTick_frame :
    (doTick s).lrx = s.lrx ∧ (doTick s).inReset = s.inReset ∧ (doTick s).cfg = s.cfg ∧
      (doTick s).srt = s.srt ∧ (doTick s).acf = s.acf ∧ (doTick s).rxq = s.rxq ∧ (doTick s).rsp = s.rsp ∧
      (doTick s).cmu = s.cmu ∧ (doTick s).ctb = s.ctb ∧ (doTick s).spi = s.spi ∧
      (doTick s).pending = s.pending := by
  unfold doTick; simp

/-- lclkPeriod changes nothing of the part but tkg, lvs, nwc, clc, lrv. -/
@[simp] theorem lclkPeriod_frame :
    (lclkPeriod s).lrx = s.lrx ∧ (lclkPeriod s).inReset = s.inReset ∧ (lclkPeriod s).cfg = s.cfg ∧
      (lclkPeriod s).srt = s.srt ∧ (lclkPeriod s).acf = s.acf ∧ (lclkPeriod s).rxq = s.rxq ∧
      (lclkPeriod s).rsp = s.rsp ∧ (lclkPeriod s).cmu = s.cmu ∧ (lclkPeriod s).ctb = s.ctb ∧
      (lclkPeriod s).spi = s.spi ∧ (lclkPeriod s).pending = s.pending := by
  unfold lclkPeriod; and_intros <;> (try dsimp only) <;> (repeat' split) <;> simp

/-- takeSoftReset changes nothing of the part but clc, lrv, srt, acf, rxq, lvs, rsp, nwc, cmu, ctb. -/
@[simp] theorem takeSoftReset_frame :
    (takeSoftReset s).lrx = s.lrx ∧ (takeSoftReset s).inReset = s.inReset ∧ (takeSoftReset s).cfg = s.cfg ∧
      (takeSoftReset s).tkg = s.tkg ∧ (takeSoftReset s).spi = s.spi ∧ (takeSoftReset s).pending = s.pending := by
  unfold takeSoftReset; simp

end Sys2Proof.Machine
end

