-- ==== Sys2Proof/Laws/Line.lean ====
section
/-! SUPPORT. What the line's events and the completions leave unchanged, one lemma each. -/

namespace Sys2Proof.Machine

variable (s : State)

/-- characterStart changes nothing of the part but clc, lrv, rsp, nwc, ctb. -/
@[simp] theorem characterStart_frame :
    (characterStart s).lrx = s.lrx ∧ (characterStart s).inReset = s.inReset ∧
      (characterStart s).cfg = s.cfg ∧ (characterStart s).tkg = s.tkg ∧ (characterStart s).srt = s.srt ∧
      (characterStart s).acf = s.acf ∧ (characterStart s).rxq = s.rxq ∧ (characterStart s).lvs = s.lvs ∧
      (characterStart s).cmu = s.cmu ∧ (characterStart s).spi = s.spi ∧
      (characterStart s).pending = s.pending := by
  unfold characterStart; and_intros <;> (try dsimp only) <;> (repeat' split) <;> simp

/-- fallingEdgeActive changes nothing of the part but clc, lrv, rsp, nwc, ctb. -/
@[simp] theorem fallingEdgeActive_frame :
    (fallingEdgeActive s).lrx = s.lrx ∧ (fallingEdgeActive s).inReset = s.inReset ∧
      (fallingEdgeActive s).cfg = s.cfg ∧ (fallingEdgeActive s).tkg = s.tkg ∧
      (fallingEdgeActive s).srt = s.srt ∧ (fallingEdgeActive s).acf = s.acf ∧
      (fallingEdgeActive s).rxq = s.rxq ∧ (fallingEdgeActive s).lvs = s.lvs ∧
      (fallingEdgeActive s).cmu = s.cmu ∧ (fallingEdgeActive s).spi = s.spi ∧
      (fallingEdgeActive s).pending = s.pending := by
  unfold fallingEdgeActive; and_intros <;> (try dsimp only) <;> (repeat' split) <;> simp

/-- fallingEdge changes nothing of the part but lrx, clc, lrv, rsp, nwc, ctb. -/
@[simp] theorem fallingEdge_frame :
    (fallingEdge s).inReset = s.inReset ∧ (fallingEdge s).cfg = s.cfg ∧ (fallingEdge s).tkg = s.tkg ∧
      (fallingEdge s).srt = s.srt ∧ (fallingEdge s).acf = s.acf ∧ (fallingEdge s).rxq = s.rxq ∧
      (fallingEdge s).lvs = s.lvs ∧ (fallingEdge s).cmu = s.cmu ∧ (fallingEdge s).spi = s.spi ∧
      (fallingEdge s).pending = s.pending := by
  unfold fallingEdge; and_intros <;> (try dsimp only) <;> (repeat' split) <;> simp

/-- risingEdge changes nothing of the part but lrx, lrv. -/
@[simp] theorem risingEdge_frame :
    (risingEdge s).inReset = s.inReset ∧ (risingEdge s).cfg = s.cfg ∧ (risingEdge s).tkg = s.tkg ∧
      (risingEdge s).clc = s.clc ∧ (risingEdge s).srt = s.srt ∧ (risingEdge s).acf = s.acf ∧
      (risingEdge s).rxq = s.rxq ∧ (risingEdge s).lvs = s.lvs ∧ (risingEdge s).rsp = s.rsp ∧
      (risingEdge s).nwc = s.nwc ∧ (risingEdge s).cmu = s.cmu ∧ (risingEdge s).ctb = s.ctb ∧
      (risingEdge s).spi = s.spi ∧ (risingEdge s).pending = s.pending := by
  unfold risingEdge; and_intros <;> (try dsimp only) <;> (repeat' split) <;> simp

/-- settled changes nothing of the part but clc, lrv. -/
@[simp] theorem settled_frame :
    (settled s).lrx = s.lrx ∧ (settled s).inReset = s.inReset ∧ (settled s).cfg = s.cfg ∧
      (settled s).tkg = s.tkg ∧ (settled s).srt = s.srt ∧ (settled s).acf = s.acf ∧
      (settled s).rxq = s.rxq ∧ (settled s).lvs = s.lvs ∧ (settled s).rsp = s.rsp ∧
      (settled s).nwc = s.nwc ∧ (settled s).cmu = s.cmu ∧ (settled s).ctb = s.ctb ∧
      (settled s).spi = s.spi ∧ (settled s).pending = s.pending := by
  unfold settled; and_intros <;> (repeat' split) <;> simp

/-- firstCharacter changes nothing of the part but lrx, clc, lrv, nwc, ctb. -/
@[simp] theorem firstCharacter_frame (b : TenBits) (level : Bool) :
    (firstCharacter b level s).inReset = s.inReset ∧ (firstCharacter b level s).cfg = s.cfg ∧
      (firstCharacter b level s).tkg = s.tkg ∧ (firstCharacter b level s).srt = s.srt ∧
      (firstCharacter b level s).acf = s.acf ∧ (firstCharacter b level s).rxq = s.rxq ∧
      (firstCharacter b level s).lvs = s.lvs ∧ (firstCharacter b level s).rsp = s.rsp ∧
      (firstCharacter b level s).cmu = s.cmu ∧ (firstCharacter b level s).spi = s.spi ∧
      (firstCharacter b level s).pending = s.pending := by
  unfold firstCharacter; and_intros <;> (try dsimp only) <;> (repeat' split) <;> simp

/-- delimiterFound changes nothing of the part but lrx, clc, lrv. -/
@[simp] theorem delimiterFound_frame (level : Bool) :
    (delimiterFound level s).inReset = s.inReset ∧ (delimiterFound level s).cfg = s.cfg ∧
      (delimiterFound level s).tkg = s.tkg ∧ (delimiterFound level s).srt = s.srt ∧
      (delimiterFound level s).acf = s.acf ∧ (delimiterFound level s).rxq = s.rxq ∧
      (delimiterFound level s).lvs = s.lvs ∧ (delimiterFound level s).rsp = s.rsp ∧
      (delimiterFound level s).nwc = s.nwc ∧ (delimiterFound level s).cmu = s.cmu ∧
      (delimiterFound level s).ctb = s.ctb ∧ (delimiterFound level s).spi = s.spi ∧
      (delimiterFound level s).pending = s.pending := by
  unfold delimiterFound; and_intros <;> (repeat' split) <;> simp

/-- watchEnds changes nothing of the part but lrv. -/
@[simp] theorem watchEnds_frame :
    (watchEnds s).lrx = s.lrx ∧ (watchEnds s).inReset = s.inReset ∧ (watchEnds s).cfg = s.cfg ∧
      (watchEnds s).tkg = s.tkg ∧ (watchEnds s).clc = s.clc ∧ (watchEnds s).srt = s.srt ∧
      (watchEnds s).acf = s.acf ∧ (watchEnds s).rxq = s.rxq ∧ (watchEnds s).lvs = s.lvs ∧
      (watchEnds s).rsp = s.rsp ∧ (watchEnds s).nwc = s.nwc ∧ (watchEnds s).cmu = s.cmu ∧
      (watchEnds s).ctb = s.ctb ∧ (watchEnds s).spi = s.spi ∧ (watchEnds s).pending = s.pending := by
  unfold watchEnds; and_intros <;> (try dsimp only) <;> (repeat' split) <;> simp

/-- loseToSkip changes nothing of the part but lrv, srt, acf, rxq, lvs, rsp, nwc, cmu, ctb. -/
@[simp] theorem loseToSkip_frame (k : Counter) :
    (loseToSkip k s).lrx = s.lrx ∧ (loseToSkip k s).inReset = s.inReset ∧ (loseToSkip k s).cfg = s.cfg ∧
      (loseToSkip k s).tkg = s.tkg ∧ (loseToSkip k s).clc = s.clc ∧ (loseToSkip k s).spi = s.spi ∧
      (loseToSkip k s).pending = s.pending := by
  unfold loseToSkip; simp

/-- handOn changes nothing of the part but srt, acf, rsp. -/
@[simp] theorem handOn_frame (h : Header) :
    (handOn h s).lrx = s.lrx ∧ (handOn h s).inReset = s.inReset ∧ (handOn h s).cfg = s.cfg ∧
      (handOn h s).tkg = s.tkg ∧ (handOn h s).clc = s.clc ∧ (handOn h s).lrv = s.lrv ∧
      (handOn h s).rxq = s.rxq ∧ (handOn h s).lvs = s.lvs ∧ (handOn h s).nwc = s.nwc ∧
      (handOn h s).cmu = s.cmu ∧ (handOn h s).ctb = s.ctb ∧ (handOn h s).spi = s.spi ∧
      (handOn h s).pending = s.pending := by
  unfold handOn; and_intros <;> (try dsimp only) <;> (repeat' split) <;> simp

/-- headerComplete changes nothing of the part but lrv, srt, acf, rsp, nwc, ctb. -/
@[simp] theorem headerComplete_frame :
    (headerComplete s).lrx = s.lrx ∧ (headerComplete s).inReset = s.inReset ∧
      (headerComplete s).cfg = s.cfg ∧ (headerComplete s).tkg = s.tkg ∧ (headerComplete s).clc = s.clc ∧
      (headerComplete s).rxq = s.rxq ∧ (headerComplete s).lvs = s.lvs ∧ (headerComplete s).cmu = s.cmu ∧
      (headerComplete s).spi = s.spi ∧ (headerComplete s).pending = s.pending := by
  unfold headerComplete; and_intros <;> (try dsimp only) <;> (repeat' split) <;> simp

/-- headerChar changes nothing of the part but lrv, srt, acf, rsp, nwc, ctb. -/
@[simp] theorem headerChar_frame (b : Byte) :
    (headerChar b s).lrx = s.lrx ∧ (headerChar b s).inReset = s.inReset ∧ (headerChar b s).cfg = s.cfg ∧
      (headerChar b s).tkg = s.tkg ∧ (headerChar b s).clc = s.clc ∧ (headerChar b s).rxq = s.rxq ∧
      (headerChar b s).lvs = s.lvs ∧ (headerChar b s).cmu = s.cmu ∧ (headerChar b s).spi = s.spi ∧
      (headerChar b s).pending = s.pending := by
  unfold headerChar; and_intros <;> (try dsimp only) <;> (repeat' split) <;> simp

/-- checkComplete changes nothing of the part but lrv, srt, acf, rxq, lvs, rsp, nwc, cmu, ctb. -/
@[simp] theorem checkComplete_frame :
    (checkComplete s).lrx = s.lrx ∧ (checkComplete s).inReset = s.inReset ∧ (checkComplete s).cfg = s.cfg ∧
      (checkComplete s).tkg = s.tkg ∧ (checkComplete s).clc = s.clc ∧ (checkComplete s).spi = s.spi ∧
      (checkComplete s).pending = s.pending := by
  unfold checkComplete; and_intros <;> (repeat' split) <;> simp

/-- bodyChar changes nothing of the part but lrv, srt, acf, rxq, lvs, rsp, nwc, cmu, ctb. -/
@[simp] theorem bodyChar_frame (b : Byte) :
    (bodyChar b s).lrx = s.lrx ∧ (bodyChar b s).inReset = s.inReset ∧ (bodyChar b s).cfg = s.cfg ∧
      (bodyChar b s).tkg = s.tkg ∧ (bodyChar b s).clc = s.clc ∧ (bodyChar b s).spi = s.spi ∧
      (bodyChar b s).pending = s.pending := by
  unfold bodyChar; and_intros <;> (try dsimp only) <;> (repeat' split) <;> simp

/-- huntChar changes nothing of the part but lrv. -/
@[simp] theorem huntChar_frame (b : Byte) (stop : Bool) :
    (huntChar b stop s).lrx = s.lrx ∧ (huntChar b stop s).inReset = s.inReset ∧
      (huntChar b stop s).cfg = s.cfg ∧ (huntChar b stop s).tkg = s.tkg ∧ (huntChar b stop s).clc = s.clc ∧
      (huntChar b stop s).srt = s.srt ∧ (huntChar b stop s).acf = s.acf ∧ (huntChar b stop s).rxq = s.rxq ∧
      (huntChar b stop s).lvs = s.lvs ∧ (huntChar b stop s).rsp = s.rsp ∧ (huntChar b stop s).nwc = s.nwc ∧
      (huntChar b stop s).cmu = s.cmu ∧ (huntChar b stop s).ctb = s.ctb ∧ (huntChar b stop s).spi = s.spi ∧
      (huntChar b stop s).pending = s.pending := by
  unfold huntChar; and_intros <;> (repeat' split) <;> simp

/-- readbackMismatch changes nothing of the part but lrv, rsp, nwc, ctb. -/
@[simp] theorem readbackMismatch_frame :
    (readbackMismatch s).lrx = s.lrx ∧ (readbackMismatch s).inReset = s.inReset ∧
      (readbackMismatch s).cfg = s.cfg ∧ (readbackMismatch s).tkg = s.tkg ∧
      (readbackMismatch s).clc = s.clc ∧ (readbackMismatch s).srt = s.srt ∧
      (readbackMismatch s).acf = s.acf ∧ (readbackMismatch s).rxq = s.rxq ∧
      (readbackMismatch s).lvs = s.lvs ∧ (readbackMismatch s).cmu = s.cmu ∧
      (readbackMismatch s).spi = s.spi ∧ (readbackMismatch s).pending = s.pending := by
  unfold readbackMismatch; and_intros <;> (try dsimp only) <;> (repeat' split) <;> simp

/-- readbackChar changes nothing of the part but lrv, rsp, nwc, ctb. -/
@[simp] theorem readbackChar_frame (b : Byte) (stop : Bool) (chars : List Byte) (done : Nat) :
    (readbackChar b stop chars done s).lrx = s.lrx ∧
      (readbackChar b stop chars done s).inReset = s.inReset ∧
      (readbackChar b stop chars done s).cfg = s.cfg ∧ (readbackChar b stop chars done s).tkg = s.tkg ∧
      (readbackChar b stop chars done s).clc = s.clc ∧ (readbackChar b stop chars done s).srt = s.srt ∧
      (readbackChar b stop chars done s).acf = s.acf ∧ (readbackChar b stop chars done s).rxq = s.rxq ∧
      (readbackChar b stop chars done s).lvs = s.lvs ∧ (readbackChar b stop chars done s).cmu = s.cmu ∧
      (readbackChar b stop chars done s).spi = s.spi ∧
      (readbackChar b stop chars done s).pending = s.pending := by
  unfold readbackChar; and_intros <;> (try dsimp only) <;> (repeat' split) <;> simp

/-- receiveChar changes nothing of the part but lrv, srt, acf, rxq, lvs, rsp, nwc, cmu, ctb. -/
@[simp] theorem receiveChar_frame (b : Byte) (stop : Bool) :
    (receiveChar b stop s).lrx = s.lrx ∧ (receiveChar b stop s).inReset = s.inReset ∧
      (receiveChar b stop s).cfg = s.cfg ∧ (receiveChar b stop s).tkg = s.tkg ∧
      (receiveChar b stop s).clc = s.clc ∧ (receiveChar b stop s).spi = s.spi ∧
      (receiveChar b stop s).pending = s.pending := by
  unfold receiveChar; and_intros <;> (try dsimp only) <;> (repeat' split) <;> simp

/-- characterEnd changes nothing of the part but lrx, clc, lrv, srt, acf, rxq, lvs, rsp, nwc, cmu, ctb. -/
@[simp] theorem characterEnd_frame (b : Byte) (stop level : Bool) :
    (characterEnd b stop level s).inReset = s.inReset ∧ (characterEnd b stop level s).cfg = s.cfg ∧
      (characterEnd b stop level s).tkg = s.tkg ∧ (characterEnd b stop level s).spi = s.spi ∧
      (characterEnd b stop level s).pending = s.pending := by
  unfold characterEnd; and_intros <;> (try dsimp only) <;> (repeat' split) <;> simp

/-- truncated changes nothing of the part but clc, lrv, srt, acf, rxq, lvs, rsp, nwc, cmu, ctb. -/
@[simp] theorem truncated_frame :
    (truncated s).lrx = s.lrx ∧ (truncated s).inReset = s.inReset ∧ (truncated s).cfg = s.cfg ∧
      (truncated s).tkg = s.tkg ∧ (truncated s).spi = s.spi ∧ (truncated s).pending = s.pending := by
  unfold truncated; and_intros <;> (try dsimp only) <;> (repeat' split) <;> simp

/-- skipEnds changes nothing of the part but clc, lrv. -/
@[simp] theorem skipEnds_frame :
    (skipEnds s).lrx = s.lrx ∧ (skipEnds s).inReset = s.inReset ∧ (skipEnds s).cfg = s.cfg ∧
      (skipEnds s).tkg = s.tkg ∧ (skipEnds s).srt = s.srt ∧ (skipEnds s).acf = s.acf ∧
      (skipEnds s).rxq = s.rxq ∧ (skipEnds s).lvs = s.lvs ∧ (skipEnds s).rsp = s.rsp ∧
      (skipEnds s).nwc = s.nwc ∧ (skipEnds s).cmu = s.cmu ∧ (skipEnds s).ctb = s.ctb ∧
      (skipEnds s).spi = s.spi ∧ (skipEnds s).pending = s.pending := by
  unfold skipEnds; and_intros <;> (try dsimp only) <;> (repeat' split) <;> simp

/-- stuck changes nothing of the part but clc, lrv, srt, acf, rxq, lvs, rsp, nwc, cmu. -/
@[simp] theorem stuck_frame :
    (stuck s).lrx = s.lrx ∧ (stuck s).inReset = s.inReset ∧ (stuck s).cfg = s.cfg ∧ (stuck s).tkg = s.tkg ∧
      (stuck s).ctb = s.ctb ∧ (stuck s).spi = s.spi ∧ (stuck s).pending = s.pending := by
  unfold stuck; and_intros <;> (try dsimp only) <;> (repeat' split) <;> simp

/-- stuckEnds changes nothing of the part but clc, lrv, nwc. -/
@[simp] theorem stuckEnds_frame :
    (stuckEnds s).lrx = s.lrx ∧ (stuckEnds s).inReset = s.inReset ∧ (stuckEnds s).cfg = s.cfg ∧
      (stuckEnds s).tkg = s.tkg ∧ (stuckEnds s).srt = s.srt ∧ (stuckEnds s).acf = s.acf ∧
      (stuckEnds s).rxq = s.rxq ∧ (stuckEnds s).lvs = s.lvs ∧ (stuckEnds s).rsp = s.rsp ∧
      (stuckEnds s).cmu = s.cmu ∧ (stuckEnds s).ctb = s.ctb ∧ (stuckEnds s).spi = s.spi ∧
      (stuckEnds s).pending = s.pending := by
  unfold stuckEnds; and_intros <;> (try dsimp only) <;> (repeat' split) <;> simp

/-- waitEnds changes nothing of the part but lrv, rsp. -/
@[simp] theorem waitEnds_frame :
    (waitEnds s).lrx = s.lrx ∧ (waitEnds s).inReset = s.inReset ∧ (waitEnds s).cfg = s.cfg ∧
      (waitEnds s).tkg = s.tkg ∧ (waitEnds s).clc = s.clc ∧ (waitEnds s).srt = s.srt ∧
      (waitEnds s).acf = s.acf ∧ (waitEnds s).rxq = s.rxq ∧ (waitEnds s).lvs = s.lvs ∧
      (waitEnds s).nwc = s.nwc ∧ (waitEnds s).cmu = s.cmu ∧ (waitEnds s).ctb = s.ctb ∧
      (waitEnds s).spi = s.spi ∧ (waitEnds s).pending = s.pending := by
  unfold waitEnds; and_intros <;> (try dsimp only) <;> (repeat' split) <;> simp

/-- echoMissing changes nothing of the part but clc, lrv, rsp, nwc, ctb. -/
@[simp] theorem echoMissing_frame :
    (echoMissing s).lrx = s.lrx ∧ (echoMissing s).inReset = s.inReset ∧ (echoMissing s).cfg = s.cfg ∧
      (echoMissing s).tkg = s.tkg ∧ (echoMissing s).srt = s.srt ∧ (echoMissing s).acf = s.acf ∧
      (echoMissing s).rxq = s.rxq ∧ (echoMissing s).lvs = s.lvs ∧ (echoMissing s).cmu = s.cmu ∧
      (echoMissing s).spi = s.spi ∧ (echoMissing s).pending = s.pending := by
  unfold echoMissing; and_intros <;> (repeat' split) <;> simp

/-- copyDone changes nothing of the part but lvs, nwc, cmu. -/
@[simp] theorem copyDone_frame :
    (copyDone s).lrx = s.lrx ∧ (copyDone s).inReset = s.inReset ∧ (copyDone s).cfg = s.cfg ∧
      (copyDone s).tkg = s.tkg ∧ (copyDone s).clc = s.clc ∧ (copyDone s).lrv = s.lrv ∧
      (copyDone s).srt = s.srt ∧ (copyDone s).acf = s.acf ∧ (copyDone s).rxq = s.rxq ∧
      (copyDone s).rsp = s.rsp ∧ (copyDone s).ctb = s.ctb ∧ (copyDone s).spi = s.spi ∧
      (copyDone s).pending = s.pending := by
  unfold copyDone; and_intros <;> (try dsimp only) <;> (repeat' split) <;> simp

/-- clearDone changes nothing of the part but nwc, cmu. -/
@[simp] theorem clearDone_frame :
    (clearDone s).lrx = s.lrx ∧ (clearDone s).inReset = s.inReset ∧ (clearDone s).cfg = s.cfg ∧
      (clearDone s).tkg = s.tkg ∧ (clearDone s).clc = s.clc ∧ (clearDone s).lrv = s.lrv ∧
      (clearDone s).srt = s.srt ∧ (clearDone s).acf = s.acf ∧ (clearDone s).rxq = s.rxq ∧
      (clearDone s).lvs = s.lvs ∧ (clearDone s).rsp = s.rsp ∧ (clearDone s).ctb = s.ctb ∧
      (clearDone s).spi = s.spi ∧ (clearDone s).pending = s.pending := by
  unfold clearDone; and_intros <;> (try dsimp only) <;> (repeat' split) <;> simp

end Sys2Proof.Machine
end

