-- ==== Sys2Proof/Laws/Port.lean ====
section
/-! SUPPORT. What the port's operations do: when a data byte takes place, what its completion does, and what
an event of the port leaves unchanged. -/

namespace Sys2Proof.Machine

variable (s : State)

/-! ### Data bytes written -/

theorem writesAt_iff (addr : RegAddr) : s.writesAt addr = true ↔ s.WritesAt addr := by
  simp [State.writesAt, State.WritesAt]

/-- A data byte that takes place has its effect, and moves the port on. -/
theorem hostWrite_of_WritesAt {addr : RegAddr} (effect : State → State) (h : s.WritesAt addr) :
    hostWrite addr effect s = (effect s).withSpi
      { (effect s).spi with ptr := ptrAfter s addr, out := 0, late := ⟨0, []⟩ } := by
  simp [hostWrite, (writesAt_iff s addr).2 h]

/-- A data byte that cannot take place changes nothing. -/
theorem hostWrite_of_not_WritesAt {addr : RegAddr} (effect : State → State) (h : ¬s.WritesAt addr) :
    hostWrite addr effect s = s := by
  have : s.writesAt addr ≠ true := fun w => h ((writesAt_iff s addr).1 w)
  simp [hostWrite, this]

theorem ptrAfter_of_dataPort {addr : RegAddr} (h : isDataPort s addr = true) : ptrAfter s addr = addr := by
  simp [ptrAfter, h]

theorem ptrAfter_of_not_dataPort {addr : RegAddr} (h : isDataPort s addr = false) :
    ptrAfter s addr = addr + 1 := by
  simp [ptrAfter, h]

theorem isDataPort_iff (addr : RegAddr) :
    isDataPort s addr = true ↔ addr = 0x2C ∨ (addr = 0x5E ∧ s.spi.page = 1) := by
  simp [isDataPort]

/-! ### Data bytes read -/

@[simp] theorem loadAt_byte (addr : RegAddr) : (s.loadAt addr).byte = s.readReg addr := rfl
@[simp] theorem loadAt_effect (addr : RegAddr) : (s.loadAt addr).effect = s.loadEffect addr := rfl

/-- applyLoad changes nothing of the part but tkg, rxq, lvs, nwc. -/
@[simp] theorem applyLoad_frame (e : LoadEffect) :
    (applyLoad e s).lrx = s.lrx ∧ (applyLoad e s).inReset = s.inReset ∧ (applyLoad e s).cfg = s.cfg ∧
      (applyLoad e s).clc = s.clc ∧ (applyLoad e s).lrv = s.lrv ∧ (applyLoad e s).srt = s.srt ∧
      (applyLoad e s).acf = s.acf ∧ (applyLoad e s).rsp = s.rsp ∧ (applyLoad e s).cmu = s.cmu ∧
      (applyLoad e s).ctb = s.ctb ∧ (applyLoad e s).spi = s.spi ∧ (applyLoad e s).pending = s.pending := by
  cases e <;> simp [applyLoad]

/-- The side effect of a read replaces captures and read positions only. -/
theorem applyLoad_keeps (e : LoadEffect) :
    (applyLoad e s).rxq = { s.rxq with
      readPos := (applyLoad e s).rxq.readPos, capUsed := (applyLoad e s).rxq.capUsed
      capFree := (applyLoad e s).rxq.capFree, capCount := (applyLoad e s).rxq.capCount } ∧
    (applyLoad e s).lvs = { s.lvs with
      readPos := (applyLoad e s).lvs.readPos, capFresh := (applyLoad e s).lvs.capFresh
      capStale := (applyLoad e s).lvs.capStale } ∧
    (applyLoad e s).nwc = { s.nwc with mitCapture := (applyLoad e s).nwc.mitCapture } ∧
    (applyLoad e s).tkg = { s.tkg with capture := (applyLoad e s).tkg.capture } := by
  cases e <;> simp [applyLoad]

/-- A complete data byte: its effect, the pointer, and the next load. -/
theorem completeRead_of_read {l : Load} (h : s.spi.phase = .read l) :
    completeRead s = (applyLoad l.effect s).withSpi
      { s.spi with
        ptr := ptrAfter s s.spi.ptr
        phase := .read ((applyLoad l.effect s).loadAt (ptrAfter s s.spi.ptr))
        out := l.byte } := by
  simp [completeRead, h]

/-- Outside a read transaction there is no data byte to complete. -/
theorem completeRead_of_not_read (h : ∀ l, s.spi.phase ≠ .read l) : completeRead s = s := by
  unfold completeRead
  split
  · next l hl => exact absurd hl (h l)
  all_goals rfl

/-- completeRead changes nothing of the part but tkg, rxq, lvs, nwc, spi. -/
@[simp] theorem completeRead_frame :
    (completeRead s).lrx = s.lrx ∧ (completeRead s).inReset = s.inReset ∧ (completeRead s).cfg = s.cfg ∧
      (completeRead s).clc = s.clc ∧ (completeRead s).lrv = s.lrv ∧ (completeRead s).srt = s.srt ∧
      (completeRead s).acf = s.acf ∧ (completeRead s).rsp = s.rsp ∧ (completeRead s).cmu = s.cmu ∧
      (completeRead s).ctb = s.ctb ∧ (completeRead s).pending = s.pending := by
  unfold completeRead; and_intros <;> split <;> simp

/-- A row of its own is the data byte at the pointer, where the pointer stands at its address. -/
theorem hostRead_of_ptr {addr : RegAddr} (r : s.inReset = false) (p : s.spi.ptr = addr) :
    hostRead addr s = completeRead s := by
  simp [hostRead, r, p]

theorem hostRead_of_ne {addr : RegAddr} (h : s.inReset = true ∨ s.spi.ptr ≠ addr) : hostRead addr s = s := by
  unfold hostRead
  rcases h with h | h <;> simp [h]

/-- hostRead changes nothing of the part but tkg, rxq, lvs, nwc, spi. -/
@[simp] theorem hostRead_frame (addr : RegAddr) :
    (hostRead addr s).lrx = s.lrx ∧ (hostRead addr s).inReset = s.inReset ∧ (hostRead addr s).cfg = s.cfg ∧
      (hostRead addr s).clc = s.clc ∧ (hostRead addr s).lrv = s.lrv ∧ (hostRead addr s).srt = s.srt ∧
      (hostRead addr s).acf = s.acf ∧ (hostRead addr s).rsp = s.rsp ∧ (hostRead addr s).cmu = s.cmu ∧
      (hostRead addr s).ctb = s.ctb ∧ (hostRead addr s).pending = s.pending := by
  unfold hostRead; and_intros <;> split <;> simp

/-! ### Transactions -/

/-- selectPort changes nothing of the part but spi. -/
theorem selectPort_eq : selectPort s = s.withSpi (selectPort s).spi := by
  unfold selectPort; split <;> rfl

/-- deselectPort changes nothing of the part but spi. -/
theorem deselectPort_eq : deselectPort s = s.withSpi (deselectPort s).spi := by
  unfold deselectPort; split <;> rfl

/-- noteArrivals changes nothing of the part but spi. -/
theorem noteArrivals_eq (late : LateReports) : noteArrivals late s = s.withSpi (noteArrivals late s).spi := by
  unfold noteArrivals; split <;> rfl

/-- commandLoaded changes nothing of the part but spi. -/
theorem commandLoaded_eq (byte : Byte) : commandLoaded byte s = s.withSpi (commandLoaded byte s).spi := by
  unfold commandLoaded; split <;> rfl

/-- portEvent changes nothing of the part but tkg, rxq, lvs, nwc, spi. -/
@[simp] theorem portEvent_frame (event : PortEvent) :
    (portEvent event s).lrx = s.lrx ∧ (portEvent event s).inReset = s.inReset ∧
      (portEvent event s).cfg = s.cfg ∧ (portEvent event s).clc = s.clc ∧ (portEvent event s).lrv = s.lrv ∧
      (portEvent event s).srt = s.srt ∧ (portEvent event s).acf = s.acf ∧ (portEvent event s).rsp = s.rsp ∧
      (portEvent event s).cmu = s.cmu ∧ (portEvent event s).ctb = s.ctb ∧
      (portEvent event s).pending = s.pending := by
  cases event with
  | select => simp only [portEvent]; rw [selectPort_eq]; simp
  | deselect => simp only [portEvent]; rw [deselectPort_eq]; simp
  | command byte => simp only [portEvent]; and_intros <;> split <;> first | rfl | (rw [commandLoaded_eq]; simp)
  | dataRead => simp only [portEvent]; and_intros <;> split <;> simp
  | arrivals late => simp only [portEvent]; and_intros <;> split <;> first | rfl | (rw [noteArrivals_eq]; simp)

/-- MISO is at high impedance while CS_N is high or a reset is in force. -/
theorem miso_of_not_served (h : s.inReset = true ∨ s.spi.csN = true) : s.miso = none := by
  unfold State.miso
  rcases h with h | h <;> simp [h]

end Sys2Proof.Machine
end

