-- ==== Sys2Proof/Tests/Slice0.lean ====
section
/-! SUPPORT. Tests: the well-formedness checks, small steps from the document's own examples, and for
every obligation with hypotheses a state and operands that meet them, clause by clause. -/

namespace Sys2Proof.Tests

open Sys2Proof.Machine

/-! ### Well-formed commands -/

theorem test_slot_sixteen_is_refused : Instr.wf (.staleWatchExpiry 16) = false := by decide
theorem test_slot_fifteen_is_taken : Instr.wf (.staleWatchExpiry 15) = true := by decide
theorem test_known_code_is_refused : Instr.wf (.unknownCommand 0x01) = false := by decide
theorem test_unknown_code_is_taken : Instr.wf (.unknownCommand 0x00) = true := by decide
theorem test_cmd_address_is_refused : Instr.wf (.registerWrite 0x06 0x01) = false := by decide
theorem test_locked_address_is_refused : Instr.wf (.registerWrite 0x17 0x09) = false := by decide
theorem test_argument_address_is_taken : Instr.wf (.registerWrite 0x03 0x09) = true := by decide

/-- The code list of the configuration is that of Table 87. -/
theorem test_codes_are_the_commands' : Config.commandCodes = Cmd.all.map Cmd.code := by decide

/-- No word spells a command. -/
theorem test_no_word_is_placed (s : State) : s.withFetchWord 8 0x96 = s := rfl

/-! ### States for the tests -/

/-- The next state of a command. -/
def next (c : Instr) (s : State) : State :=
  match exec c s with
  | .next t => t
  | .fault r => nomatch r
  | .refused _ => s

/-- OWN_ADDRESS is 9, and a write transaction stands at CMD. -/
def base : State :=
  { State.reset with
    cfg := { LockedConfig.reset with ownAddress := 9 }
    spi := ⟨false, 0x06, .write, 0, 0, ⟨0, []⟩⟩ }

/-- The port in a write transaction at an address. -/
def writing (addr : RegAddr) (s : State) : State :=
  { s with spi := { s.spi with csN := false, ptr := addr, phase := .write } }

/-- The port in a read transaction, with the byte at an address loaded. -/
def reading (addr : RegAddr) (s : State) : State :=
  { s with spi := { s.spi with csN := false, ptr := addr, phase := .read (s.loadAt addr) } }

/-- CS_N high. -/
def deselected (s : State) : State := { s with spi := { s.spi with csN := true, phase := .closed } }

def onPage (n : BitVec 2) (s : State) : State := { s with spi := { s.spi with page := n } }

/-- A header of a SEND from 17 to 9, sequence 5, topic 300, length 2 (section 7.5.1). -/
def sendHeader : List Byte := [0x09, 0x11, 0x45, 0x01, 0x2C, 0x02]

/-- A header of a PUBLISH from 17, sequence 11, topic 300, length 0. -/
def publishHeader : List Byte := [0x00, 0x11, 0x0B, 0x01, 0x2C, 0x00]

/-- ACTIVE, LRX high, in a receiver state, a character in progress or not. -/
def active (rx : RxState) (busy : Bool) : State :=
  { base with
    clc := ⟨.active, none, if rx = .hunt then some 8 else none⟩
    lrv := ⟨rx, .framed, busy, if busy then none else some 0, none, if rx = .stuck then some 0 else none,
      if rx = .skip then some 0 else none, .empty⟩ }

def withMode (m : HuntMode) (s : State) : State := { s with lrv := { s.lrv with mode := m } }

def withLow (s : State) : State :=
  { s with lrx := false, lrv := { s.lrv with low := some 0, idle := none, high := none } }

def withHdr (bytes : List Byte) (s : State) : State :=
  { s with lrv := { s.lrv with buffer := ⟨bytes, [], 0, crcOf bytes⟩ } }

/-- The last character of a frame is in progress; its check passes with the byte `lastCheck`. -/
def atCheck (bytes payload : List Byte) : State :=
  let crc := crcOf (bytes ++ payload)
  let s := active .body true
  { s with lrv := { s.lrv with buffer := ⟨bytes, payload, 1, crcByte crc (crc.extractLsb' 8 8)⟩ } }

def lastCheck (bytes payload : List Byte) : Byte := (crcOf (bytes ++ payload)).extractLsb' 0 8

def entry17 : SourceEntry := ⟨17, some 4, none, false, 0, 0, 0⟩

def inHand17 (rel : Relation) : InHand := ⟨17, 5, .send, 9, true, rel⟩

/-- The SEND of section 7.5.1 at its second check character, classified QUEUE and reserved. -/
def sendAtCheck : State :=
  let s := atCheck sendHeader [1, 2]
  let r : Classified := ⟨.queue, none, false, .entry 0, .next⟩
  { s with
    srt := ⟨[entry17], some (inHand17 .next), none⟩
    acf := { s.acf with held := some ⟨r, false⟩ }
    rxq := { s.rxq with claim := .reserved (headerOf sendHeader) r }
    rsp := ⟨.idle, some ⟨17, 5, .tracked, none, some .queue, some .reserved⟩⟩ }

def withRel (rel : Relation) (s : State) : State :=
  { s with srt := { s.srt with inHand := some (inHand17 rel) } }

def withCmd (c : Cmd) (arg : Byte) (s : State) : State :=
  { s with cmu := { s.cmu with inFlight := some ⟨c, arg, 0, 0⟩ } }

def withArg (a : Byte) (s : State) : State := { s with cmu := { s.cmu with arg := a } }

def job300 : ClassJob := ⟨headerOf publishHeader, .next, none⟩

def withJob (j : ClassJob) (s : State) : State := { s with acf := { s.acf with job := some j } }

def aRecord (length : Nat) : Record :=
  ⟨17, 300, .publish, 11, length, .nothing, false, none, .openMode, 0, List.replicate length 7⟩

def withRecords (rs : List Record) (s : State) : State := { s with rxq := { s.rxq with records := rs } }

def setSlot0 (sl : Slot) (s : State) : State := { s with lvs := { s.lvs with slots := s.lvs.slots.set 0 sl } }

def freshSlot (maxAge : Nat) : Slot := ⟨.fresh, ⟨22, 700, 40, 1, [5], 3⟩, 2, 0, maxAge, none⟩

def pinned (a : Byte) : SourceEntry := ⟨a, none, none, true, 0, 0, 0⟩

/-- A table of 24 entries, all pinned but the one for source 5 at position 22. -/
def fullTable : List SourceEntry :=
  (List.range 22).map (fun n => pinned (BitVec.ofNat 8 (n + 100))) ++ [⟨5, some 8, none, false, 0, 0, 0⟩, pinned 40]

def allPinned : List SourceEntry := (List.range 24).map fun n => pinned (BitVec.ofNat 8 (n + 100))

def withTable (t : List SourceEntry) (s : State) : State := { s with srt := { s.srt with table := t } }

def chars : List Byte := responseFrame 9 17 5 .accept

def sending (done : Nat) (busy : Bool) : State := { active .hunt busy with rsp := ⟨.sending chars done, none⟩ }

/-! ### The document's examples -/

/-- The reference value of R19. -/
theorem test_crc_reference : crcOf [0x31, 0x32, 0x33, 0x34, 0x35, 0x36, 0x37, 0x38, 0x39] = 0x29B1 := by
  decide +kernel

/-- The header bytes of the response of section 7.5.1 (R196, note). -/
theorem test_response_header : responseHeader 9 17 5 .accept = [0x11, 0x09, 0x85, 0x00, 0x01, 0x00] := by decide

/-- Table 62: the SEND of section 7.5.1 is committed, recorded, answered ACCEPT and its verdict stored. -/
theorem test_send_is_accepted :
    let t := next (.characterEnd (lastCheck sendHeader [1, 2]) true true) sendAtCheck
    t.lrv.rx = .hunt ∧ t.rsp.state = .waiting chars ∧ t.rxq.records.length = 1 ∧ t.rxq.used = 16 ∧
      t.srt.table = [{ entry17 with lastSeq := some 5, lastVerdict := some .accept }] ∧
      t.ctb.live.framesGood = 1 ∧ Flag.rx.isIn t.nwc.flags = true ∧ t.clc.idleCount = none := by decide +kernel

/-- Examples of R43: last_seq 62. -/
theorem test_sequence_distances :
    [0, 30, 31, 61].map (fun q => relationOf [{ entry17 with lastSeq := some 62 }] 17 q false) =
      [.gap 1, .gap 31, .resync, .resync] := by decide

/-- Table 31: source 5 is evicted, the pinned entry at the end is passed over. -/
theorem test_eviction : (evictOne fullTable).map (·.addr) =
    (fullTable.map (·.addr)).filter (· != 5) := by decide +kernel

/-- Table 42 and R88. -/
theorem test_record_sizes : [0, 1, 4, 5, 10, 30, 48].map recordSize = [12, 16, 16, 20, 24, 44, 60] := by decide

/-- R63. -/
theorem test_hash_indices : [417, 928, 1443, 1954, 2469, 2980, 3495, 4006].map (fun n => hashIndex (BitVec.ofNat 12 n)) =
    List.replicate 8 417 := by decide

/-- Table 68: the clear of RX re-counts the two records left and loads the hold-off. -/
theorem test_recount :
    let n : Nwc := { State.reset.nwc with flags := 1, rxThreshold := 3, rxHoldoff := 5, u := 3 }
    (n.clear 1 2).u = 2 ∧ (n.clear 1 2).holdOff = some 5 ∧ (n.clear 1 2).flags = 0 ∧ (n.clear 1 4).flags = 1 := by
  decide

/-- Table 52: the deferred update of slot 0 is written at copy completion, and the window keeps the old. -/
theorem test_copy_completion :
    let s := withCmd .snapshotSlot 0 (setSlot0 { freshSlot 0 with
      state := .seen, unread := 1, deferred := some ⟨22, 700, 41, 0, [], 9⟩ } base)
    let t := next .copyCompletion { s with lvs := { s.lvs with snap := some ⟨0, false⟩ } }
    (t.lvs.slotAt 0).state = .fresh ∧ (t.lvs.slotAt 0).content.seq = 41 ∧ (t.lvs.slotAt 0).unread = 1 ∧
      t.lvs.winValid = true ∧ Flag.slot.isIn t.nwc.flags = true ∧ t.cmu.inFlight = none := by decide +kernel

/-- R109: used 100, setting 2, a reservation of 44 bytes raises WATERMARK and clears the arm. -/
theorem test_watermark_rise :
    let s := withRecords [aRecord 48, aRecord 25] { base with rxq := { base.rxq with watermark := 2 } }
    let t := claimSpace { headerOf publishHeader with length := 30 } ⟨.queue, none, false, .hash, .next⟩ s
    s.rxq.used = 100 ∧ t.rxq.used = 144 ∧ t.rxq.arm = false ∧ Flag.watermark.isIn t.nwc.flags = true := by
  decide +kernel

/-- The response's levels are 110 bit times (R141). -/
theorem test_response_levels : (ltxLevels chars).length = 110 := by decide +kernel

/-! ### Witnesses: steps, resets, ticks -/

theorem test_witness_EmptyQueueIsOneClockPeriod :
    let at' := fun p : Nat => { base with tkg := ⟨p, 0, 0⟩ }
    (base.pending = [] ∧ (at' 1022).pending = []) ∧ { base with inReset := true }.inReset = true ∧
      (at' 1022).tkg.prescale + 1 < 128 * 2 ^ (at' 1022).cfg.tickShift.toNat ∧
      128 * 2 ^ (at' 1023).cfg.tickShift.toNat ≤ (at' 1023).tkg.prescale + 1 ∧ base.inReset = false := by decide

theorem test_witness_LineEventsThatCannotOccur :
    (withLow base).lrx = false ∧ base.lrx = true ∧ base.clc.line ≠ .rising ∧ base.lrv.rx ≠ .hunt ∧
      (active .hunt false).lrv.mode ≠ .deciding ∧ (active .hunt false).lrv.mode ≠ .watching ∧
      (withLow (withMode .watching (active .hunt false))).lrv.idle = none ∧ base.lrv.charBusy = false ∧
      (withLow (active .header false)).lrv.idle = none ∧ base.lrv.rx = .off ∧
      (withLow (active .skip false)).lrv.idle = none ∧ (withLow (active .stuck false)).lrv.high = none ∧
      base.clc.line ≠ .active ∧ (active .stuck false).lrv.rx = .stuck ∧ (active .hunt false).lrv.low = none ∧
      (active .hunt true).lrv.charBusy = true ∧ base.rsp.state.code ≠ 1 ∧ base.ltxen = false ∧
      (sending 0 true).lrv.charBusy = true := by decide +kernel

theorem test_witness_CompletionsThatCannotOccur :
    let busy := { active .hunt true with clc := ⟨.active, none, some 1⟩ }
    let waits := withCmd .pinSource 17 sendAtCheck
    base.inReset = false ∧ base.acf.job = none ∧ base.lvs.snap = none ∧ base.cmu.inFlight = none ∧
      (∀ sl, (setSlot0 (freshSlot 2) base).lvs.slots[0]? = some sl → sl.age + 1 ≠ sl.maxAge) ∧
      (base.lvs.slots[16]? = none) ∧ base.nwc.holdOff ≠ some 1 ∧ base.clc.idleCount ≠ some 1 ∧
      busy.clc.idleCount = some 1 ∧ busy.lrv.charBusy = true ∧ base.entryWaits = false ∧
      (withCmd .readEntry 0 base).acf.job = none ∧ base.sourceWaits = false ∧
      (waits.sourceWaits = true ∧ (withCmd .pinSource 17 base).lrv.rx = .off) ∧
      (waits.lrv.rx = .body ∧ waits.rsp.state = .idle ∧ waits.lrv.idle = none) := by decide +kernel

/-- No character of BODY but a framing error ends the frame before its second check character. -/
theorem test_witness_bodyCharacterEndsNothing :
    ¬(withHdr sendHeader (active .body true)).EndsBody (.characterEnd 1 true true) := by
  simp [State.EndsBody, withHdr, active]

theorem test_witness_AccessesThatCannotOccur :
    ¬base.WritesAt 0x0A ∧ ¬(deselected base).WritesAt 0x06 ∧ ¬(reading 0x06 base).WritesAt 0x06 ∧
      Instr.writeAddr .nop = some 0x06 ∧ Instr.writeAddr (.cmdFlagsClear 1) = some 0x0A ∧
      Instr.readAddr .qdataRead = some 0x2C ∧ (reading 0x2D base).spi.ptr ≠ 0x2C ∧
      base.spi.phase = .write ∧ (deselected base).spi.phase ≠ .write ∧ base.spi.csN = false ∧
      (deselected base).spi.csN = true ∧
      next .nop (reading 0x06 base) = reading 0x06 base ∧
      next .qdataRead (reading 0x2D base) = reading 0x2D base := by decide +kernel

theorem test_witness_ResetSetsAndHoldsThePart :
    { base with inReset := true }.inReset = true ∧ Instr.writeAddr .nop ≠ none ∧ Instr.readAddr .qdataRead ≠ none ∧
      (deselected { base with inReset := true }).spi.csN = true ∧ base.spi.csN = false := by decide

/-- A transaction begun in reset is not served after it; the next one is (R193). -/
theorem test_transaction_over_reset :
    let r := next .resetEnd (next (.commandByte .select) (next .pinReset (deselected base)))
    let held := next (.registerWrite 0x03 5) (next (.commandByte (.command 0x03)) r)
    let again := next (.registerWrite 0x03 5)
      (next (.commandByte (.command 0x03)) (next (.commandByte .select) (next (.commandByte .deselect) r)))
    r.spi.csN = false ∧ r.miso = none ∧ held.cmu.arg = 0 ∧ again.cmu.arg = 5 ∧ again.spi.ptr = 0x04 := by
  decide +kernel

theorem test_witness_TickCountsAndAgesSlots :
    let s := setSlot0 (freshSlot 1) base
    s.inReset = false ∧ base.idleHolds = false ∧ (∀ sl ∈ base.lvs.slots, sl.maxAge = 0) ∧ s.lvs.slots[0]? = some (freshSlot 1) ∧ (freshSlot 1).maxAge ≠ 0 ∧
      (freshSlot 1).state = .fresh ∧ (freshSlot 1).age + 1 = (freshSlot 1).maxAge := by decide +kernel

theorem test_witness_CountdownsRunAtTicks :
    let off := fun k => { base with nwc := { base.nwc with holdOff := k, u := 1 } }
    let idle := fun (k : Nat) (busy : Bool) =>
      let s := active .hunt busy
      { s with clc := { s.clc with idleCount := some k } }
    (off (some 2)).nwc.holdOff = some 2 ∧ (off none).nwc.holdOff = none ∧ (off (some 1)).nwc.holdOff = some 1 ∧
      (idle 2 true).idleHolds = true ∧ (idle 2 true).lrv.charBusy = true ∧ (idle 2 false).lrv.charBusy = false ∧
      (idle 1 false).idleHolds = true ∧ (idle 1 false).clc.idleCount = some 1 ∧ (idle 1 false).lrx = true ∧
      (withLow (idle 1 false)).lrx = false ∧ (withLow (idle 1 false)).idleHolds = true := by decide +kernel

/-! ### Witnesses: the line -/

theorem test_witness_WakeFromListen :
    let at' := fun l => { base with clc := ⟨l, none, none⟩ }
    (at' .listen).lrx = true ∧ (at' .listen).clc.line = .listen ∧ (at' .dormant).clc.line = .dormant ∧
      (at' .rising).clc.line = .rising ∧ (at' .rising).rsp.state = .idle := by decide

theorem test_witness_FirstCharacterFindsTheFrame :
    let d := withMode .deciding (active .hunt true)
    let w := withMode .watching (active .hunt false)
    d.lrv.rx = .hunt ∧ d.lrv.mode = .deciding ∧ w.lrv.mode = .watching ∧ w.lrv.idle.isSome = true ∧
      ((0 : BitVec 10) ≠ 0b1010101010 ∧ (0 : BitVec 10) ≠ 0b1110001010) ∧
      (next (.firstCharacterDecision ⟨0, .clear⟩ true) d).ctb.live.missedRising = 1 := by decide +kernel

/-- Six bits of the last preamble character and four of the delimiter alternate; the frame is lost and
counted, as it is where a byte 0xC5 of a payload shows the delimiter's pattern (R15;
notes/assumptions/26.md). The same samples before the delimiter find a preamble character. -/
theorem test_samples_that_run_into_the_delimiter :
    let samples := charSamples preambleChar >>> 4 ||| charSamples delimiterChar <<< 6
    let after := fun (bits : BitVec 10) (place : TenBitsPlace) =>
      next (.firstCharacterDecision ⟨bits, place⟩ true) (withMode .deciding (active .hunt true))
    let lost := fun t : State => t.lrv.rx = .skip ∧ t.ctb.live.missedRising = 1
    samples = charSamples preambleChar ∧ lost (after samples .intoDelimiter) ∧
      lost (after (charSamples delimiterChar) .inFrame) ∧ (after samples .clear).lrv.mode = .watching ∧
      (after (charSamples delimiterChar) .clear).lrv.rx = .header := by
  decide +kernel

theorem test_witness_CharacterStarts :
    let s := active .hunt false
    let w := { s with rsp := ⟨.waiting chars, none⟩ }
    let d := withMode .deciding (active .hunt true)
    s.clc.line = .active ∧ s.lrx = true ∧ s.lrv.rx ≠ .stuck ∧ s.lrv.charBusy = false ∧ s.rsp.state.code ≠ 1 ∧
      w.rsp.state = .waiting chars ∧ (next .characterStart w).idleHolds = true ∧
      (next .characterStart (active .skip false)).idleHolds = false ∧
      d.clc.line = .active ∧ d.lrx = true ∧ d.lrv.charBusy = true ∧ d.lrv.mode ≠ .framed ∧
      (next .characterStart d).lrv.low = some 0 := by decide +kernel

theorem test_witness_EdgesMoveTheLineTimes :
    let k := active .stuck false
    let b := active .hunt true
    k.clc.line = .active ∧ k.lrx = true ∧ k.lrv.rx = .stuck ∧ b.lrx = true ∧ b.lrv.rx ≠ .stuck ∧
      b.lrv.charBusy = true ∧ b.lrv.mode = .framed ∧ (withLow b).lrx = false ∧ (withLow b).clc.line = .active ∧
      (withLow base).clc.line ≠ .active ∧ (withLow base).lrx = false ∧
      (withLow (active .hunt false)).lrv.charBusy = false ∧
      (next (.characterEnd 0 false true) (withLow (active .hunt false))).lrv.idle = some 0 := by
  decide +kernel

theorem test_witness_CharacterInHunt :
    let s := active .hunt true
    s.Framing .hunt ∧ s.lrv.mode = .framed ∧ (next (.characterEnd 0x55 true true) s).lrv.rx = .hunt ∧
      (next (.characterEnd 0xC5 true true) s).lrv.rx = .header ∧
      (next (.characterEnd 0xC5 false false) s).lrv.rx = .skip ∧
      (next (.characterEnd 0x00 true true) s).lrv.rx = .skip := by decide +kernel

theorem test_witness_BytesOfAFrameAreKept :
    let h := withHdr (sendHeader.take 4) (active .header true)
    let b := withHdr sendHeader (active .body true)
    let c := withHdr publishHeader (active .body true)
    h.Framing .header ∧ h.lrv.buffer.hdr.length < 5 ∧ b.Framing .body ∧ b.acf.job = none ∧
      b.lrv.buffer.payload.length < (headerOf b.lrv.buffer.hdr).length ∧
      (headerOf c.lrv.buffer.hdr).length ≤ c.lrv.buffer.payload.length ∧ c.lrv.buffer.checks = 0 := by decide +kernel

theorem test_witness_HeaderCompletionHasThreeOutcomes :
    let at' := fun bytes : List Byte => withHdr (bytes.take 5) (active .header true)
    (at' sendHeader).Framing .header ∧ (at' sendHeader).lrv.buffer.hdr.length = 5 ∧
      (headerOf sendHeader).valid = true ∧ (headerOf sendHeader).format = 0 ∧ (headerOf sendHeader).kind = .send ∧
      (headerOf publishHeader).kind = .publish ∧
      (headerOf [0x09, 0x11, 0x85, 0x00, 0x01, 0x00]).kind = .response ∧
      (headerOf [0x09, 0x11, 0x85, 0x00, 0x01, 0x00]).valid = true ∧
      (headerOf [0x09, 0x11, 0x45, 0x01, 0x2C, 49]).valid = false ∧
      (headerOf [0x09, 0x11, 0x45, 0x11, 0x2C, 48]).valid = true ∧
      (headerOf [0x09, 0x11, 0x45, 0x11, 0x2C, 48]).format ≠ 0 ∧
      relationOf [{ entry17 with lastSeq := some 5, lastVerdict := some .accept }] 17 5 true = .duplicate := by
  decide +kernel

theorem test_witness_LostFrameIsDropped :
    (active .header true).Framing .header ∧ (active .body true).Framing .body ∧
      (active .header false).lrv.idle.isSome = true ∧ (active .body false).lrv.idle.isSome = true ∧
      sendAtCheck.AtCheck ∧ crcByte sendAtCheck.lrv.buffer.crc 0 ≠ 0 ∧ sendAtCheck.clc.line = .active ∧
      sendAtCheck.clc.idleCount = none := by decide +kernel

/-- Frames dropped with a source command and with an entry command waiting. -/
theorem test_waiting_commands_at_a_dropped_frame :
    let s := withCmd .pinSource 17 sendAtCheck
    let e := withCmd .readEntry 3 (withJob job300 (active .body true))
    let t := next (.characterEnd 0 true true) s
    let u := next (.characterEnd 0 false false) e
    t.srt.table = [{ entry17 with pinned := true }] ∧ t.cmu.inFlight = none ∧ t.srt.inHand = none ∧
      Flag.cmdDone.isIn t.nwc.flags = true ∧ u.cmu.last = 0x42 ∧ u.acf.held = none ∧ u.acf.job = none ∧
      Flag.cmdDone.isIn u.nwc.flags = true := by decide +kernel

theorem test_witness_SkipAndStuckEnd :
    let e := active .skip false
    let l := withLow (active .hunt false)
    let b := withLow (active .body false)
    let k := active .stuck false
    (active .skip true).Framing .skip ∧ e.lrv.rx = .skip ∧ e.lrv.skipIdle.isSome = true ∧ e.lrv.idle.isSome = true ∧
      e.clc.line = .active ∧ e.rsp.state = .idle ∧ e.clc.idleCount = none ∧
      l.clc.line = .active ∧ l.lrv.rx ≠ .stuck ∧ l.lrv.low.isSome = true ∧ l.lrv.charBusy = false ∧
      b.lrv.rx = .body ∧ b.lrv.low.isSome = true ∧
      k.lrv.rx = .stuck ∧ k.lrv.high.isSome = true ∧ k.clc.idleCount = none := by decide +kernel

/-! ### Witnesses: sources and entries -/

theorem test_witness_RelationOfAFrame :
    let t := fun (q : Option Seq) (v : Option Verdict) => [{ entry17 with lastSeq := q, lastVerdict := v }]
    sourceEntry [] 17 = none ∧ fullTable.length = 24 ∧ (∃ e ∈ fullTable, e.pinned = false) ∧
      allPinned.length = 24 ∧ (∀ e ∈ allPinned, e.pinned = true) ∧ sourceEntry allPinned 17 = none ∧
      relationOf (t none none) 17 5 true = .first ∧
      [6, 7, 37, 38, 4].map (fun q => relationOf (t (some 5) none) 17 q true) =
        [.next, .gap 1, .gap 31, .resync, .resync] ∧
      relationOf (t (some 5) (some .refuseFull)) 17 5 true = .retry ∧
      relationOf (t (some 5) none) 17 5 false = .duplicate ∧
      relationOf (t (some 5) (some .accept)) 17 5 true = .duplicate := by decide +kernel

theorem test_witness_CommitUpdatesTheSource :
    let new := withTable [] (withRel .first sendAtCheck)
    let full := withTable fullTable (withRel .first sendAtCheck)
    sendAtCheck.Commits (lastCheck sendHeader [1, 2]) ∧
      (withCmd .pinSource 17 sendAtCheck).sourceWaits = true ∧ sendAtCheck.srt.inHand = some (inHand17 .next) ∧ sourceEntry sendAtCheck.srt.table 17 = some entry17 ∧
      (inHand17 .untracked).relation = .untracked ∧ (withRel (.gap 31) sendAtCheck).Commits (lastCheck sendHeader [1, 2]) ∧
      new.srt.table.length < 24 ∧ sourceEntry new.srt.table 17 = none ∧ new.Commits (lastCheck sendHeader [1, 2]) ∧
      24 ≤ full.srt.table.length ∧ sourceEntry full.srt.table 17 = none ∧
      fullTable = fullTable.take 22 ++ ⟨5, some 8, none, false, 0, 0, 0⟩ :: [pinned 40] := by decide +kernel

theorem test_witness_SourceCommandsActOrWait :
    let s := withArg 17 (withTable [entry17] base)
    let full := withArg 17 (withTable fullTable base)
    let pins := withArg 17 (withTable allPinned base)
    let hand := withArg 17 { base with srt := ⟨[], some (inHand17 .first), none⟩ }
    s.Takes ∧ s.srt.inHand = none ∧ isNode 17 = true ∧ sourceEntry s.srt.table 17 = some entry17 ∧
      sourceEntry (withTable [] s).srt.table 17 = none ∧ (withTable [] s).srt.table.length < 24 ∧
      full.Takes ∧ 24 ≤ full.srt.table.length ∧ sourceEntry full.srt.table 17 = none ∧
      pins.Takes ∧ (∀ e ∈ pins.srt.table, e.pinned = true) ∧ sourceEntry pins.srt.table 17 = none ∧
      (withArg 0 s).srt.table[(withArg 0 s).cmu.arg.toNat]? = some entry17 ∧
      (withArg 1 s).srt.table.length ≤ (withArg 1 s).cmu.arg.toNat ∧ isNode 0 = false ∧ isNode 248 = false ∧
      isNode 247 = true ∧ hand.Takes ∧ hand.srt.inHand ≠ none := by decide +kernel

theorem test_witness_WaitingSourceCommandRuns :
    let s := withCmd .pinSource 17 sendAtCheck
    let idle := withCmd .readSource 0 { active .body false with srt := ⟨[entry17], some (inHand17 .next), none⟩ }
    let b := lastCheck sendHeader [1, 2]
    s.cmu.inFlight = some ⟨.pinSource, 17, 0, 0⟩ ∧ Cmd.pinSource.isSource = true ∧ s.srt.inHand ≠ none ∧
      (s.Framing .body ∧ (headerOf s.lrv.buffer.hdr).length ≤ s.lrv.buffer.payload.length ∧ 1 ≤ s.lrv.buffer.checks) ∧
      (next (.deferredSourceCommand (.characterEnd b true true)) s).srt.table =
        [{ entry17 with lastSeq := some 5, lastVerdict := some .accept, pinned := true }] ∧
      (idle.lrv.rx = .body ∧ idle.lrv.idle.isSome = true) ∧
      (next (.deferredSourceCommand .truncation) idle).srt.window = some ⟨0, entry17⟩ ∧
      ((withLow idle).clc.line = .active ∧ (withLow idle).lrv.low.isSome = true ∧ (withLow idle).lrv.charBusy = false) ∧
      (next (.deferredSourceCommand .entryToStuck) (withLow idle)).srt.window = some ⟨0, entry17⟩ := by decide +kernel

theorem test_witness_HashIndexOfATopic :
    (0 : Topic).toNat / 512 = (511 : Topic).toNat / 512 ∧ [(2 : Byte)][0 / 8]? = some 2 ∧
      hashMember [2] 1 = true ∧ hashMember [2] 0 = false := by decide

theorem test_witness_FallbackWhenNoEntryMatches :
    let c := LockedConfig.reset
    c.filterMode = .closed ∧ c.hashOn = false ∧ { c with filterMode := .openMode }.filterMode = .openMode ∧
      { c with hashOn := true }.hashOn = true ∧ hashMember [0xFF] (hashIndex 7) = true ∧
      hashMember [] (hashIndex 7) = false := by decide

theorem test_witness_ClassificationFixesTheResult :
    let s := { withJob job300 base with cfg := { base.cfg with filterMode := .openMode } }
    let e : AcfEntry := { AcfEntry.reset with valid := true, topicHigh := 400, action := .both, slot := some 0 }
    let found := withJob { job300 with found := some (0, e) } base
    let full := withRecords (List.replicate 68 (aRecord 48) ++ [aRecord 1]) s
    s.acf.job = some job300 ∧ s.entryWaits = false ∧ (withCmd .readEntry 0 s).entryWaits = true ∧ (classify s.cfg s.acf.hash job300).action.queues = true ∧
      recordSize job300.hdr.length ≤ s.rxq.free ∧ s.rxq.claim = .nothing ∧
      found.acf.job = some { job300 with found := some (0, e) } ∧ full.rxq.free = 0 ∧ full.acf.job = some job300 ∧
      (classify base.cfg base.acf.hash job300).action.queues = false ∧ s.rxq.arm = true ∧ s.rxq.watermark = 0 ∧
      (let w := { s with rxq := { s.rxq with watermark := 1, records := [aRecord 40] } }
       64 * w.rxq.watermark ≤ w.rxq.used + recordSize job300.hdr.length) ∧
      (let w := { s with rxq := { s.rxq with watermark := 1 } }
       w.rxq.used + recordSize job300.hdr.length < 64 * w.rxq.watermark) ∧
      { s with rsp := ⟨.idle, some ⟨17, 5, .tracked, none, none, none⟩⟩ }.rsp.inputs ≠ none := by decide +kernel

theorem test_witness_EntryCommandsActOrWait :
    let s := withArg 31 base
    let bad := fun g : Staging => withArg 0 { base with acf := { base.acf with staging := g } }
    s.Takes ∧ s.cmu.arg.toNat < 32 ∧ s.acf.job = none ∧ 32 ≤ (withArg 32 base).cmu.arg.toNat ∧
      s.acf.table[31]? = some AcfEntry.reset ∧ s.acf.staging.legal = true ∧
      (bad { Staging.reset with topicLow := 1 }).acf.staging.legal = false ∧
      (bad { Staging.reset with source := 247 }).acf.staging.legal = true ∧
      (bad { Staging.reset with source := 248 }).acf.staging.legal = false ∧
      (bad { Staging.reset with kinds := 3 }).acf.staging.legal = false ∧
      (bad { Staging.reset with action := .latest, slot := 16 }).acf.staging.legal = false ∧
      (bad { Staging.reset with action := .discard, slot := 16 }).acf.staging.legal = true ∧
      (withJob job300 s).Takes ∧ (withJob job300 s).acf.job ≠ none ∧
      (withCmd .commitEntry 0 (withJob job300 base)).cmu.inFlight = some ⟨.commitEntry, 0, 0, 0⟩ ∧
      Cmd.commitEntry.isEntry = true ∧
      (next .deferredEntryCommand (withCmd .commitEntry 0 (withJob job300 base))).cmu.last = 0x40 := by decide +kernel

theorem test_witness_CommitCountsTheHit :
    let b := lastCheck sendHeader [1, 2]
    let held := fun r => { sendAtCheck with acf := { sendAtCheck.acf with held := some r } }
    let r : Classified := ⟨.discard, none, false, .nothing, .next⟩
    sendAtCheck.Commits b ∧ (withCmd .pinSource 17 sendAtCheck).Commits b ∧ sendAtCheck.acf.held ≠ none ∧
      sendAtCheck.acf.table[0]? = some AcfEntry.reset ∧
      (next (.characterEnd b true true) sendAtCheck).acf.table[0]? = some { AcfEntry.reset with hits := 1 } ∧
      (held ⟨r, true⟩).Commits b ∧ (held ⟨r, false⟩).Commits b ∧ r.matched = .nothing ∧ r.action = .discard := by
  decide +kernel

/-! ### Witnesses: queue, slots, responses -/

theorem test_witness_CommitFillsTheQueue :
    let b := lastCheck sendHeader [1, 2]
    let f := { sendAtCheck with rxq := { sendAtCheck.rxq with claim := .queueFull } }
    let m := fun (n : Nwc) => { sendAtCheck with nwc := n }
    let n : Nwc := { sendAtCheck.nwc with rxThreshold := 3, rxHoldoff := 7 }
    sendAtCheck.Commits b ∧
      sendAtCheck.rxq.claim = .reserved (headerOf sendHeader) ⟨.queue, none, false, .entry 0, .next⟩ ∧
      (headerOf sendHeader).length = sendAtCheck.lrv.buffer.payload.length ∧ f.Commits b ∧
      f.rxq.claim = .queueFull ∧ (m n).Commits b ∧
      (next (.characterEnd b true true) (m n)).nwc.holdOff = some 7 ∧
      (next (.characterEnd b true true) (m { n with u := 1, holdOff := some 4 })).nwc.holdOff = some 4 ∧
      (next (.characterEnd b true true) (m { n with u := 2, holdOff := some 4 })).nwc.holdOff = none ∧
      (next (.characterEnd b true true) (m { n with flags := 1, u := 5 })).nwc.u = 5 := by decide +kernel

theorem test_witness_ReleaseAndFlush :
    let s := withRecords [aRecord 3] base
    s.Takes ∧ s.rxq.records = aRecord 3 :: [] ∧ base.Takes ∧ base.rxq.records = [] ∧
      (next .releaseHead s).rxq.records = [] ∧ (next .flushQueue s).rxq.used = 0 := by decide +kernel

theorem test_witness_CommitUpdatesTheSlot :
    let b := lastCheck sendHeader [1, 2]
    let s := setSlot0 (freshSlot 0) { sendAtCheck with lvs := { sendAtCheck.lvs with held := some 0 } }
    let d := { s with lvs := { s.lvs with snap := some ⟨0, false⟩ } }
    s.Commits b ∧ s.lvs.held = some 0 ∧ s.lvs.slots[0]? = some (freshSlot 0) ∧
      s.lvs.snap ≠ some ⟨0, false⟩ ∧ d.Commits b ∧ d.lvs.snap = some ⟨0, false⟩ := by decide +kernel

theorem test_witness_SlotCommands :
    let s := withArg 15 base
    s.Takes ∧ s.cmu.arg.toNat < 16 ∧ s.lvs.slots[15]? = some (.emptied 0) ∧ 16 ≤ (withArg 16 base).cmu.arg.toNat ∧
      (let c := withCmd .snapshotSlot 0 { base with lvs := { base.lvs with snap := some ⟨0, true⟩ } }
       c.lvs.snap = some ⟨0, true⟩ ∧ c.cmu.inFlight = some ⟨.snapshotSlot, 0, 0, 0⟩ ∧
         c.lvs.slots[0]? = some (.emptied 0) ∧ (Slot.emptied 0).deferred = none) := by decide +kernel

theorem test_witness_SendIsJudgedAndAnswered :
    let i := fun c a m => (⟨17, 5, c, some .accept, a, m⟩ : VerdictInputs)
    fixVerdict (i .duplicate none none) = some .accept ∧
      fixVerdict (i .untracked (some .discard) none) = some .refuseFilter ∧
      fixVerdict (i .tracked (some .latest) none) = some .accept ∧
      fixVerdict (i .tracked (some .both) (some .queueFull)) = some .refuseFull ∧
      sendAtCheck.Commits (lastCheck sendHeader [1, 2]) ∧ sendAtCheck.sourceWaits = false ∧
      sendAtCheck.rsp.inputs.bind fixVerdict = some .accept ∧
      { sendAtCheck with rsp := ⟨.idle, none⟩ }.rsp.inputs = none ∧ sendAtCheck.clc.line = .active ∧
      sendAtCheck.clc.idleCount = none ∧
      (next (.characterEnd (lastCheck sendHeader [1, 2]) true true)
        { sendAtCheck with rsp := ⟨.idle, none⟩ }).clc.idleCount = some 8 := by decide +kernel

theorem test_witness_ResponseIsSentAndReadBack :
    let w := { active .hunt false with rsp := ⟨.waiting chars, none⟩ }
    w.rsp.state = .waiting chars ∧ w.lrv.rx = .hunt ∧ w.lrv.idle.isSome = true ∧
      (sending 0 true).rsp.state = .sending chars 0 ∧ (sending 0 true).lrv.charBusy = true ∧
      (sending 0 true).lrv.rx = .hunt ∧ chars[0]? = some 0x55 ∧ chars.length = 11 ∧
      (sending 10 true).rsp.state = .sending chars 10 ∧ (sending 10 false).lrv.charBusy = false ∧
      (next .missingEcho (sending 0 false)).lrv.rx = .skip ∧ (sending 10 true).clc.line = .active ∧
      (next (.characterEnd (chars.getD 10 0) true true)
        { sending 10 true with clc := ⟨.active, none, none⟩ }).clc.idleCount = some 8 := by decide +kernel

/-- LTX carries the first preamble character and the delimiter, and is high when the response has stopped. -/
theorem test_witness_LtxCarriesTheResponse :
    (sending 0 false).rsp.state = .sending chars 0 ∧ chars[2]? = some 0xC5 ∧ base.ltxen = false ∧
      (List.range 10).map ((sending 0 false).ltx ·) =
        [false, true, false, true, false, true, false, true, false, true] ∧
      (List.range 10).map (fun k => (sending 0 false).ltx (20 + k)) =
        [false, true, false, true, false, false, false, true, true, true] ∧
      (sending 0 false).ltx 110 = true ∧ (next .missingEcho (sending 0 false)).ltx 0 = true ∧
      (next .pinReset (sending 3 false)).ltx 30 = true := by decide +kernel

/-! ### Witnesses: notification, command unit, port -/

theorem test_witness_PendingClearRecounts :
    let at' := fun (n th ho : Nat) => withRecords (List.replicate n (aRecord 0))
      { writing 0x0B base with nwc := { base.nwc with flags := 1, rxThreshold := th, rxHoldoff := ho } }
    (at' 1 1 0).WritesAt 0x0B ∧ (writing 0x0C base).WritesAt 0x0C ∧ Flag.rx.isIn (at' 1 1 0).nwc.flags = true ∧
      (at' 1 1 0).nwc.rxThreshold ≤ (at' 1 1 0).rxq.records.length ∧
      (at' 1 2 5).rxq.records.length < (at' 1 2 5).nwc.rxThreshold ∧
      (next (.pendingClear false 1) (at' 1 2 5)).nwc.holdOff = some 5 ∧ Flag.rx.isIn base.nwc.flags = false ∧
      (let a := at' 1 1 0
       let asleep := { a with nwc := { a.nwc with host := .asleep, wakeEn := 1 } }
       asleep.nwc.host = .asleep ∧ Flag.rx.isIn asleep.nwc.wakeEn = true ∧
         (next (.pendingClear false 1) asleep).nwc.wakeCause = 1 ∧
         (next (.pendingClear false 1) a).nwc.wakeCause = 0) := by
  decide +kernel

theorem test_witness_HostSleepsAndWakes :
    let a := { base with nwc := { base.nwc with host := .asleep } }
    base.Takes ∧ base.nwc.host = .awake ∧ a.Takes ∧ a.nwc.host = .asleep := by decide

theorem test_witness_NopAndUnknownCode :
    base.Takes ∧ (0x00 : Byte) ∉ Config.commandCodes ∧ (0xFF : Byte) ∉ Config.commandCodes := by decide

theorem test_witness_BusyWriteIsRefused :
    let s := withCmd .pinSource 17 base
    s.WritesAt 0x06 ∧ s.cmu.inFlight = some ⟨.pinSource, 17, 0, 0⟩ ∧ Instr.writesCmd .nop = true ∧
      Instr.writesCmd (.unknownCommand 0) = true := by decide

theorem test_witness_LineIsStartedAndStopped :
    let hold := fun h : Byte => { base with cfg := { base.cfg with idleHold := h } }
    base.Takes ∧ base.clc.line = .dormant ∧ base.cfg.ownAddress ≠ 0 ∧ base.cfg.idleHold ≠ 0 ∧ base.lrx = true ∧
      { base with cfg := .reset }.Takes ∧ { base with cfg := .reset }.cfg.ownAddress = 0 ∧ (hold 0).cfg.idleHold = 0 ∧
      { base with lrx := false }.lrx = false ∧ (active .body true).Takes ∧ (active .body true).clc.line ≠ .dormant := by
  decide +kernel

theorem test_witness_SoftResetBeginsAndEnds :
    let s := withCmd .softReset 0 base
    base.WritesAt 0x06 ∧ base.PortSound ∧ base.cmu.inFlight = none ∧ s.cmu.inFlight = some ⟨.softReset, 0, 0, 0⟩ := by
  decide +kernel

/-- A LINE_FAULT and a frame counted with the taking: before it both are lost, after it both stand; so does
a late RX, and STALE, CMD_DONE and COUNT_SAT are never late (R132, R169, R181, R187). -/
theorem test_reports_with_the_taking :
    let s := { base with
      nwc := { base.nwc with flags := 0x345, irqEn := 0x044 }
      ctb := { base.ctb with live := { base.ctb.live with framesGood := 7 } } }
    let before := next .softReset s
    let after := next .softReset (next (.commandByte (.arrivals ⟨0x345, [.framesGood]⟩)) s)
    before.nwc.flags = 0 ∧ before.irqN = true ∧ before.ctb.live.framesGood = 0 ∧
      after.nwc.flags = 0x041 ∧ after.nwc.u = 0 ∧ after.irqN = false ∧ after.ctb.live.framesGood = 1 ∧
      after.ctb.live.truncated = 0 ∧ after.spi.late = ⟨0, []⟩ ∧
      next .softReset (next .nop (next (.commandByte (.arrivals ⟨0x345, []⟩)) s)) =
        next .softReset (next .nop s) := by decide +kernel

theorem test_witness_CountersCountAndAreTaken :
    let s := { base with ctb := { base.ctb with live := { base.ctb.live with gapFrames := 65532 } } }
    base.Takes ∧ s.ctb.live.get .gapFrames < 65535 ∧ 65535 ≤ s.ctb.live.get .gapFrames + 5 ∧
      s.ctb.live.get .filtered + 1 < 65535 := by decide

theorem test_witness_Locks :
    (writing 0x17 base).WritesAt (lockedRegAddr .ownAddress) ∧ base.clc.line = .dormant ∧
      (writing 0x1D (active .hunt false)).WritesAt (lockedRegAddr .idleHold) ∧
      (active .hunt false).clc.line ≠ .dormant := by decide +kernel

theorem test_witness_RegisterWritesAreHeld :
    let p := fun n => onPage n base
    base.inReset = false ∧ base.spi.phase = .write ∧ (writing 0x2C base).spi.ptr = 0x2C ∧
      base.spi.page = 0 ∧ (p 1).spi.page = 1 ∧ 2 ≤ (p 2).spi.page.toNat ∧ 2 ≤ (p 3).spi.page.toNat ∧
      (writing 0x5E (p 1)).spi.ptr = 0x5E ∧ 0x40 ≤ (0x40 : RegAddr).toNat ∧ 0x47 ≤ (0x5F : RegAddr).toNat ∧
      (0x5F : RegAddr) ≠ 0x5E ∧ (writing 0x0D base).WritesAt 0x0D ∧ (writing 0x0E base).WritesAt 0x0E ∧
      (writing 0x0A base).WritesAt 0x0A ∧ (writing 0x33 base).WritesAt 0x33 := by decide

/-- A burst from the head's last registers reaches QDATA and stays there (R191). -/
theorem test_burst_from_the_head :
    let s := next (.commandByte (.command 0xA8)) (next (.commandByte .select)
      (deselected (withRecords [aRecord 3] base)))
    let give := next (.commandByte .dataRead)
    let t := give (give (give (give s)))
    s.miso = some 0 ∧ t.spi.ptr = 0x2C ∧ t.miso = some 7 ∧ t.rxq.readPos = 0 ∧ (give t).rxq.readPos = 1 ∧
      (give t).spi.ptr = 0x2C ∧ (give t).spi.out = 7 ∧
      (next (.commandByte .deselect) t).rxq.readPos = 0 := by decide +kernel

/-- A write burst that reaches QDATA writes no further register (R191), and a read transaction writes none. -/
theorem test_write_burst_at_a_port :
    let w := next (.registerWrite 0x2C 1) (writing 0x2C base)
    w.spi.ptr = 0x2C ∧ next (.watermarkWrite 9) w = w ∧ (next (.watermarkWrite 9) (reading 0x33 base)).rxq.watermark = 0 := by
  decide +kernel

theorem test_witness_TransactionsRun :
    let c := next (.commandByte .select) (deselected base)
    (deselected base).spi.csN = true ∧ base.spi.csN = false ∧ c.spi.phase = .command base.statusL ∧
      c.miso = some base.statusL ∧ (deselected base).miso = none ∧ base.miso = some 0 ∧
      (next (.commandByte .select) (deselected { base with inReset := true })).spi.phase = .closed := by
  decide +kernel

theorem test_witness_LoadTakesByteAndFigures :
    let s := withRecords [aRecord 3] base
    let w := { onPage 1 base with lvs := { base.lvs with winValid := true } }
    s.rxq.records = aRecord 3 :: [] ∧ base.rxq.records = [] ∧ w.spi.page = 1 ∧ w.lvs.winValid = true ∧
      { w with lvs := base.lvs }.lvs.winValid = false ∧ base.lvs.slots[15]? = some (.emptied 0) ∧
      (0x5E : RegAddr) = 0x5E ∧ base.spi.page ≠ 1 ∧ (0x1D : RegAddr) ∉ [0x1E, 0x2D, 0x34, 0x15, 0x2C, 0x5E] := by
  decide +kernel

theorem test_witness_reads :
    let s := withRecords [aRecord 3] base
    let w := { onPage 1 base with lvs := { base.lvs with winValid := true } }
    (reading 0x1E base).ReadsAt 0x1E ⟨0, .tickCount 0⟩ ∧
      (reading 0x2D s).ReadsAt 0x2D ⟨16, .fill 16 4080 1⟩ ∧
      (reading 0x34 (setSlot0 (freshSlot 0) base)).ReadsAt 0x34 ⟨1, .sets 1 0⟩ ∧
      (reading 0x15 base).ReadsAt 0x15 ⟨0, .mitigation 0⟩ ∧ (reading 0x2C s).ReadsAt 0x2C ⟨7, .nextQueueByte⟩ ∧
      (reading 0x2C base).ReadsAt 0x2C ⟨0, .nothing⟩ ∧ w.spi.page = 1 ∧
      (reading 0x5E w).ReadsAt 0x5E ⟨0, .nextSlotByte⟩ ∧
      (reading 0x5E (onPage 1 base)).ReadsAt 0x5E ⟨0, .nothing⟩ ∧ (onPage 1 base).spi.page = 1 ∧
      (reading 0x5E base).ReadsAt 0x5E ⟨0, .nothing⟩ ∧ (reading 0x7F base).ReadsAt 0x7F ⟨0, .nothing⟩ ∧
      (next (.commandByte .dataRead) (reading 0x7F base)).spi.ptr = 0 := by decide +kernel

theorem test_witness_RegistersShowTheirOwners :
    let s := withRecords [aRecord 3] base
    let p := fun n => onPage n base
    let w := { p 1 with
      srt := { base.srt with window := some ⟨0, entry17⟩ }, lvs := { base.lvs with winValid := true } }
    s.rxq.records = aRecord 3 :: [] ∧ base.rxq.records = [] ∧ base.acf.hash[63]? = some 0 ∧
      base.lvs.slots[7]? = some (.emptied 0) ∧ (p 1).srt.window = none ∧ (p 1).lvs.winValid = false ∧
      w.srt.window = some ⟨0, entry17⟩ ∧ w.lvs.winValid = true ∧ w.lvs.window.slot < 16 ∧
      Counter.all[14]? = some .untracked ∧ (p 2).spi.page = 2 ∧ (p 3).spi.page = 3 ∧
      ((0x39 : RegAddr).toNat = 0x39 ∧ (0x3F : RegAddr).toNat = 0x3F ∧ (p 1).readReg 0x7F = 0 ∧ (p 2).readReg 0x5E = 0) ∧
      (s.readReg 0x21, s.readReg 0x25, w.readReg 0x4B, w.readReg 0x51) = (17, 3, 17, 1) := by decide +kernel

/-! ### Witnesses: what every step keeps -/

theorem test_witness_queue_tables_sources : State.reset.QueueFits ∧ State.reset.TablesSized ∧ State.reset.SourcesDistinct := by
  decide +kernel

theorem test_witness_counters_address_watermark :
    State.reset.CountersBounded ∧ State.reset.OwnAddressHeld ∧ State.reset.WatermarkSound := by decide +kernel

theorem test_witness_mitigation : State.reset.MitigationSound := by
  refine ⟨by decide, by decide, by decide, by decide, by decide, ?_⟩
  intro k h; cases h

theorem test_witness_slots : State.reset.SlotsSound := by
  refine ⟨by decide +kernel, by decide +kernel, ?_⟩
  intro f h; cases h

theorem test_witness_port : State.reset.PortSound ∧ base.PortSound := by decide +kernel

theorem test_witness_command_waits : State.reset.CommandWaits := by
  refine ⟨?_, by decide⟩
  intro f h; cases h

theorem test_witness_line_sound_reset : State.reset.LineSound := by
  refine ⟨?_, ?_, ?_, ?_, ?_⟩ <;> simp only [State.LineAgrees, State.ResponseAgrees, State.FrameAgrees,
    State.TimesAgree, State.IdleHoldAgrees] <;> decide +kernel

theorem test_witness_line_sound_active : (active .hunt false).LineSound := by
  refine ⟨?_, ?_, ?_, ?_, ?_⟩ <;> simp only [State.LineAgrees, State.ResponseAgrees, State.FrameAgrees,
    State.TimesAgree, State.IdleHoldAgrees] <;> decide +kernel

theorem test_witness_LineStateAndLock :
    Instr.wf .startLine = true ∧ (next .startLine base).clc.line = .listen ∧
      (next .lrxFallingEdge (next .startLine base)).clc.line = .rising ∧
      (next .settleCompletion (next .lrxFallingEdge (next .startLine base))).clc.line = .active ∧
      (next .stopLine (active .hunt false)).clc.line = .dormant := by decide +kernel

theorem test_witness_records_counters_flags :
    let s := withRecords [aRecord 3] base
    let n := { writing 0x0B base with nwc := { base.nwc with flags := 1 } }
    Instr.wf .releaseHead = true ∧ (next .releaseHead s).rxq.records = [] ∧
      (next .softReset s).rxq.records = [] ∧ s.ctb.live.get .foreign ≤ 65535 ∧
      Flag.rx.isIn n.nwc.flags = true ∧ Flag.rx.isIn (next (.pendingClear false 1) n).nwc.flags = false := by
  decide +kernel

end Sys2Proof.Tests
end

section
/-! ### The relation of a frame to its source's history -/

namespace Sys2Proof.Machine

/-! #### The distance between two sequences -/

/-- Subtraction of six-bit sequences is the sequence distance d of Table 28. -/
theorem toNat_seq_sub (seq last : Seq) :
    (seq - last).toNat = (seq.toNat + 64 - last.toNat) % 64 := by
  have last_lt : last.toNat < 64 := last.isLt
  rw [BitVec.toNat_sub]
  omega

/-! #### The relation at a distance (R43, R44) -/

section RelationAt
variable {d : Nat} {sendToPart : Bool} {stored : Option Verdict}

@[simp] theorem relationAt_one : relationAt 1 sendToPart stored = .next := rfl

theorem relationAt_eq_gap (two_le : 2 ≤ d) (le_top : d ≤ 32) :
    relationAt d sendToPart stored = .gap (d - 1) := by
  have ne_zero : d ≠ 0 := by omega
  have ne_one : d ≠ 1 := by omega
  simp only [relationAt, ne_zero, ne_one, le_top, if_true, if_false]

theorem relationAt_eq_resync (beyond : 33 ≤ d) : relationAt d sendToPart stored = .resync := by
  have ne_zero : d ≠ 0 := by omega
  have ne_one : d ≠ 1 := by omega
  have not_gap : ¬ d ≤ 32 := by omega
  simp only [relationAt, ne_zero, ne_one, not_gap, if_false]

theorem relationAt_zero_eq_retry (not_accepted : stored ≠ some .accept) :
    relationAt 0 true stored = .retry := by
  simp [relationAt, not_accepted]

theorem relationAt_zero_eq_duplicate (h : sendToPart = false ∨ stored = some .accept) :
    relationAt 0 sendToPart stored = .duplicate := by
  obtain not_to_part | accepted := h
  · simp [relationAt, not_to_part]
  · simp [relationAt, accepted]

end RelationAt

/-! #### Room for a source without an entry (R43) -/

theorem roomForSource_iff {table : List SourceEntry} :
    roomForSource table = true ↔ table.length < 24 ∨ ∃ e ∈ table, e.pinned = false := by
  change _ ↔ table.length < Config.sourceEntries ∨ _
  simp [roomForSource]

theorem roomForSource_eq_false_of_all_pinned {table : List SourceEntry} (full : 24 ≤ table.length)
    (pinned : ∀ e ∈ table, e.pinned = true) : roomForSource table = false := by
  rw [Bool.eq_false_iff, ne_eq, roomForSource_iff]
  rintro (short | ⟨e, mem, unpinned⟩)
  · omega
  · simp [pinned e mem] at unpinned

/-! #### The cases of the lookup (R43) -/

section RelationOf
variable {table : List SourceEntry} {source : Byte} {seq : Seq} {toPart : Bool}

theorem relationOf_of_no_entry (absent : sourceEntry table source = none) :
    relationOf table source seq toPart = if roomForSource table then .first else .untracked := by
  simp only [relationOf, absent]

theorem relationOf_of_no_lastSeq {e : SourceEntry} (present : sourceEntry table source = some e)
    (unheard : e.lastSeq = none) : relationOf table source seq toPart = .first := by
  simp only [relationOf, present, unheard]

theorem relationOf_of_lastSeq {e : SourceEntry} {last : Seq}
    (present : sourceEntry table source = some e) (heard : e.lastSeq = some last) :
    relationOf table source seq toPart =
      relationAt ((seq.toNat + 64 - last.toNat) % 64) toPart e.lastVerdict := by
  simp only [relationOf, present, heard, toNat_seq_sub]

end RelationOf

/-- Settles O19: the cases of the lookup, and where a last sequence is present the cases of the distance. -/
theorem relationOfAFrame : Obligations.RelationOfAFrame := by
  intro table source seq toPart
  refine ⟨fun absent => ⟨fun room => ?first, fun full pinned => ?untracked⟩,
    fun e present => ⟨relationOf_of_no_lastSeq present, fun last heard => ?distance⟩⟩
  case first =>
    rw [relationOf_of_no_entry absent, if_pos (roomForSource_iff.mpr room)]
  case untracked =>
    have no_room := roomForSource_eq_false_of_all_pinned full pinned
    rw [relationOf_of_no_entry absent, no_room, if_neg Bool.false_ne_true]
  case distance =>
    rw [relationOf_of_lastSeq present heard]
    refine ⟨fun one => ?_, fun ⟨two_le, le_top⟩ => relationAt_eq_gap two_le le_top,
      relationAt_eq_resync, fun zero to_part not_accepted => ?_, fun zero other => ?_⟩
    · rw [one, relationAt_one]
    · rw [zero, to_part, relationAt_zero_eq_retry not_accepted]
    · rw [zero, relationAt_zero_eq_duplicate other]

end Sys2Proof.Machine
end

section
/-! ### The acceptance filter: match, search, hash index and fallback -/

namespace Sys2Proof.Machine

/-! #### When an entry matches a frame (R61) -/

theorem KindSel.takes_iff {sel : KindSel} {kind : Kind} :
    sel.takes kind = true ↔
      (sel = .either ∧ (kind = .publish ∨ kind = .send)) ∨
        (sel = .publish ∧ kind = .publish) ∨ (sel = .send ∧ kind = .send) := by
  cases sel <;> simp [KindSel.takes]

/-- The source clause of `AcfEntry.matchesFrame`: an absent source is ANY. -/
theorem AcfEntry.matchesFrame_iff {e : AcfEntry} {h : Header} :
    e.matchesFrame h = true ↔
      e.valid = true ∧ (e.topicLow.toNat ≤ h.topic.toNat ∧ h.topic.toNat ≤ e.topicHigh.toNat) ∧
        (e.source = none ∨ e.source = some h.source) ∧ e.kinds.takes h.kind = true := by
  cases source : e.source <;>
    simp [AcfEntry.matchesFrame, source, BitVec.le_def, and_assoc]

/-! #### The lowest matching index (R66) -/

/-- The entry at index `n` matches and no entry of a lower index does. -/
def IsFirstMatch (h : Header) (table : List AcfEntry) (n : Nat) (e : AcfEntry) : Prop :=
  table[n]? = some e ∧ e.matchesFrame h = true ∧
    ∀ k < n, ∀ e', table[k]? = some e' → e'.matchesFrame h = false

section Search
variable {h : Header} {head e : AcfEntry} {rest : List AcfEntry} {start n : Nat}

@[simp] theorem searchFrom_nil : searchFrom h start [] = none := rfl

theorem searchFrom_cons_of_match (hit : head.matchesFrame h = true) :
    searchFrom h start (head :: rest) = some (start, head) := by
  simp only [searchFrom, hit, if_true]

theorem searchFrom_cons_of_no_match (miss : head.matchesFrame h = false) :
    searchFrom h start (head :: rest) = searchFrom h (start + 1) rest := by
  simp only [searchFrom, miss, if_false, Bool.false_eq_true]

theorem not_isFirstMatch_nil : ¬ IsFirstMatch h [] n e := by
  simp [IsFirstMatch]

theorem isFirstMatch_cons_of_match (hit : head.matchesFrame h = true) :
    IsFirstMatch h (head :: rest) n e ↔ n = 0 ∧ e = head := by
  constructor
  · rintro ⟨at_n, -, below⟩
    obtain _ | n := n
    · exact ⟨rfl, by simpa using at_n.symm⟩
    · have miss := below 0 n.succ_pos head rfl
      simp [hit] at miss
  · rintro ⟨rfl, rfl⟩
    exact ⟨rfl, hit, by simp⟩

theorem isFirstMatch_cons_of_no_match (miss : head.matchesFrame h = false) :
    IsFirstMatch h (head :: rest) n e ↔ ∃ i, n = i + 1 ∧ IsFirstMatch h rest i e := by
  constructor
  · rintro ⟨at_n, hit, below⟩
    obtain _ | i := n
    · obtain rfl : head = e := by simpa using at_n
      simp [miss] at hit
    · exact ⟨i, rfl, at_n, hit, fun k lt e' at_k => below (k + 1) (Nat.succ_lt_succ lt) e' at_k⟩
  · rintro ⟨i, rfl, at_i, hit, below⟩
    refine ⟨at_i, hit, fun k lt e' at_k => ?_⟩
    obtain _ | k := k
    · obtain rfl : head = e' := by simpa using at_k
      exact miss
    · exact below k (Nat.lt_of_succ_lt_succ lt) e' at_k

/-- The search numbers the entries from `start` and gives the first that matches. -/
theorem searchFrom_eq_some_iff {table : List AcfEntry} :
    searchFrom h start table = some (n, e) ↔ ∃ i, n = start + i ∧ IsFirstMatch h table i e := by
  induction table generalizing start with
  | nil => simp [not_isFirstMatch_nil]
  | cons head rest ih =>
    cases found : head.matchesFrame h with
    | true =>
      simp [searchFrom_cons_of_match found, isFirstMatch_cons_of_match found, eq_comm]
    | false =>
      simp [searchFrom_cons_of_no_match found, isFirstMatch_cons_of_no_match found, ih,
        Nat.add_assoc, Nat.add_comm 1]

end Search

/-- Settles O23: the four conditions of the match, and the search as the first match of the table. -/
theorem entryMatchesFrame : Obligations.EntryMatchesFrame := by
  refine ⟨fun e h => ?matching, fun table h n e => ?search⟩
  case matching =>
    rw [AcfEntry.matchesFrame_iff, KindSel.takes_iff]
  case search =>
    change _ ↔ IsFirstMatch h table n e
    simp [searchFrom_eq_some_iff]

/-! #### The hash index of a topic (R63) -/

section HashIndex
variable {t u : Topic} {h block : Nat}

/-- The 4096 topics are eight blocks of 512. -/
theorem topic_block_lt (t : Topic) : t.toNat / 512 < 8 := by
  have topic_lt : t.toNat < 4096 := t.isLt
  omega

/-- XOR with the block is its own inverse: the index determines the place in the block. -/
theorem hashIndex_eq_iff : hashIndex t = h ↔ t.toNat % 512 = h ^^^ (t.toNat / 512) := by
  rw [hashIndex]
  constructor
  · intro index
    rw [← index, Nat.xor_xor_cancel_right]
  · intro place
    rw [place, Nat.xor_xor_cancel_right]

theorem xor_block_lt (place_lt : h < 512) (block_lt : block < 8) : h ^^^ block < 512 :=
  Nat.xor_lt_two_pow (n := 9) place_lt (by omega)

theorem hashIndex_lt (t : Topic) : hashIndex t < 512 :=
  xor_block_lt (Nat.mod_lt _ (by omega)) (topic_block_lt t)

/-- A block number has three bits, so the XOR leaves the higher bits of the place as they are. -/
theorem hashIndex_div_eight (t : Topic) : hashIndex t / 8 = t.toNat % 512 / 8 := by
  have block_high : t.toNat / 512 / 2 ^ 3 = 0 := Nat.div_eq_of_lt (topic_block_lt t)
  change hashIndex t / 2 ^ 3 = t.toNat % 512 / 2 ^ 3
  rw [hashIndex, Nat.xor_div_two_pow, block_high, Nat.xor_zero]

theorem hashIndex_inj_of_same_block (same_block : t.toNat / 512 = u.toNat / 512)
    (same_index : hashIndex t = hashIndex u) : t = u := by
  have same_place : t.toNat % 512 = u.toNat % 512 := by
    rw [hashIndex_eq_iff.mp same_index, hashIndex_eq_iff.mp rfl, same_block]
  apply BitVec.eq_of_toNat_eq
  omega

/-- The topic of a block at the place whose index is `h`. -/
def topicOfIndex (block h : Nat) : Topic := BitVec.ofNat 12 (512 * block + (h ^^^ block))

theorem toNat_topicOfIndex (index_lt : h < 512) (block_lt : block < 8) :
    (topicOfIndex block h).toNat = 512 * block + (h ^^^ block) := by
  have place_lt := xor_block_lt index_lt block_lt
  rw [topicOfIndex, BitVec.toNat_ofNat]
  omega

theorem topicOfIndex_spec (index_lt : h < 512) (block_lt : block < 8) :
    (topicOfIndex block h).toNat / 512 = block ∧ hashIndex (topicOfIndex block h) = h := by
  have place_lt := xor_block_lt index_lt block_lt
  have value := toNat_topicOfIndex index_lt block_lt
  have in_block : (topicOfIndex block h).toNat / 512 = block := by omega
  refine ⟨in_block, hashIndex_eq_iff.mpr ?_⟩
  rw [in_block]
  omega

/-- The topics of one index, one in each block. -/
theorem hashIndex_eq_iff_exists_block (index_lt : h < 512) :
    hashIndex t = h ↔ ∃ block < 8, t.toNat = 512 * block + (h ^^^ block) := by
  constructor
  · intro index
    have place := hashIndex_eq_iff.mp index
    exact ⟨t.toNat / 512, topic_block_lt t, by omega⟩
  · rintro ⟨block, block_lt, value⟩
    have same : t = topicOfIndex block h :=
      BitVec.eq_of_toNat_eq (value.trans (toNat_topicOfIndex index_lt block_lt).symm)
    rw [same, (topicOfIndex_spec index_lt block_lt).2]

end HashIndex

theorem hashMember_of_getElem? {hash : List Byte} {i : Nat} {v : Byte}
    (present : hash[i / 8]? = some v) : hashMember hash i = v.getLsbD (i % 8) := by
  simp only [hashMember, List.getD_eq_getElem?_getD, present, Option.getD_some]

/-! #### The fallback (R67, Table 35) -/

section Fallback
variable {cfg : LockedConfig} {hash : List Byte} {topic : Topic}

theorem fallback_of_openMode (mode : cfg.filterMode = .openMode) :
    fallback cfg hash topic = (.queue, .openMode) := by
  simp only [fallback, mode]

theorem fallback_of_closed_of_hashOff (mode : cfg.filterMode = .closed) (off : cfg.hashOn = false) :
    fallback cfg hash topic = (.discard, .nothing) := by
  simp [fallback, mode, off]

theorem fallback_of_closed_of_hashOn (mode : cfg.filterMode = .closed) (on : cfg.hashOn = true) :
    fallback cfg hash topic =
      if hashMember hash (hashIndex topic) then (.queue, .hash) else (.discard, .nothing) := by
  simp [fallback, mode, on]

/-- Without an entry found, action and match are the fallback's and no slot is named. -/
theorem classify_of_no_entry (h : Header) (rel : Relation) :
    classify cfg hash ⟨h, rel, none⟩ =
      ⟨(fallback cfg hash h.topic).1, none, false, (fallback cfg hash h.topic).2, rel⟩ := rfl

end Fallback

/-- Settles O24: XOR with the number of the block permutes the places of each block. -/
theorem hashIndexOfATopic : Obligations.HashIndexOfATopic := by
  refine ⟨fun t => ⟨rfl, hashIndex_lt t, hashIndex_div_eight t⟩,
    fun t u => hashIndex_inj_of_same_block,
    fun h index_lt block block_lt => ⟨_, topicOfIndex_spec index_lt block_lt⟩,
    fun t => ?topics_of_417, by decide,
    fun hash i v => hashMember_of_getElem?, fun cfg hash t mode on => ?accepts⟩
  case topics_of_417 =>
    have blocks : [417, 928, 1443, 1954, 2469, 2980, 3495, 4006] =
        (List.range 8).map fun block => 512 * block + (417 ^^^ block) := by decide
    simp [hashIndex_eq_iff_exists_block (show 417 < 512 by omega), blocks, eq_comm]
  case accepts =>
    rw [fallback_of_closed_of_hashOn mode on]
    cases hashMember hash (hashIndex t) <;> simp

/-- Settles O25: Table 35 row by row. -/
theorem fallbackWhenNoEntryMatches : Obligations.FallbackWhenNoEntryMatches := by
  intro cfg hash h rel
  simp only [classify_of_no_entry, true_and]
  refine ⟨fun mode => ?openMode, fun mode on present => ?hashPresent, fun mode on absent => ?hashAbsent,
    fun mode off => ?hashOff⟩
  case openMode => simp [fallback_of_openMode mode]
  case hashPresent => simp [fallback_of_closed_of_hashOn mode on, present]
  case hashAbsent => simp [fallback_of_closed_of_hashOn mode on, absent]
  case hashOff => simp [fallback_of_closed_of_hashOff mode off]

end Sys2Proof.Machine
end

section
/-! ### Commands taken and completed, and RELEASE HEAD -/

namespace Sys2Proof.Machine

/-! #### The taking of a command, and its completion (R171, R174) -/

section Taking
variable {s : State} {cmd : Cmd} {code : Byte} {r : CmdResult}

theorem takeCommand_of_idle (owner : InFlight → State → State) (idle : s.cmu.inFlight = none) :
    takeCommand cmd owner s = owner (s.cmu.capture cmd) (s.busyWith cmd) := by
  simp only [takeCommand, idle]
  rfl

@[simp] theorem ptrAfter_cmdAddr (s : State) : ptrAfter s cmdAddr = 0x07 :=
  ptrAfter_of_not_dataPort s rfl

/-- A taken command is its owner's work on the BUSY part, and the pointer past CMD. -/
theorem hostWrite_takeCommand (owner : InFlight → State → State) (takes : s.Takes) :
    hostWrite cmdAddr (takeCommand cmd owner) s =
      (owner (s.cmu.capture cmd) (s.busyWith cmd)).wrote 0x07 := by
  obtain ⟨writes, idle⟩ : s.WritesAt cmdAddr ∧ s.cmu.inFlight = none := takes
  rw [hostWrite_of_WritesAt s _ writes, takeCommand_of_idle owner idle, ptrAfter_cmdAddr]
  rfl

theorem complete_of_inFlight {f : InFlight} (busy : s.cmu.inFlight = some f) :
    complete r s = s.completed f.cmd.code r := by
  simp only [complete, busy]
  rfl

@[simp] theorem busyWith_rxq (cmd : Cmd) (s : State) : (s.busyWith cmd).rxq = s.rxq := rfl

/-- A completion leaves nothing of the command in flight: the part was BUSY with it in between only. -/
theorem complete_busyWith : complete r (s.busyWith cmd) = s.completed cmd.code r := by
  rw [complete_of_inFlight rfl]
  rfl

theorem complete_busyWith_withRxq (q : Rxq) :
    complete r ((s.busyWith cmd).withRxq q) = (s.withRxq q).completed cmd.code r :=
  complete_busyWith (s := s.withRxq q)

end Taking

/-! #### The oldest record leaves the queue (R87, R88, R101, R107) -/

section Release
variable {q : Rxq} {oldest : Record} {rest : List Record}

theorem recordSize_pos (length : Nat) : 0 < recordSize length := by
  unfold recordSize
  omega

/-- After a fall of the used bytes only their place below the level decides about the arm. -/
theorem Rxq.fallen_of_lt {before : Nat} (fell : q.used < before) :
    q.fallen before = { q with arm := q.arm || belowLevel q.watermark q.used } := by
  cases below : belowLevel q.watermark q.used <;> simp [Rxq.fallen, fell, below]

theorem Rxq.used_of_records_cons (records : q.records = oldest :: rest) :
    q.used = { q with records := rest, readPos := 0 }.used + recordSize oldest.length := by
  simp only [Rxq.used, recordBytes, records, List.map_cons, List.sum_cons]
  omega

/-- A record has at least twelve bytes, so the used bytes fall with every release. -/
theorem Rxq.release_of_records_cons (records : q.records = oldest :: rest) :
    q.release =
      { q with
        records := rest
        readPos := 0
        arm := q.arm || belowLevel q.watermark { q with records := rest, readPos := 0 }.used } := by
  have fell : { q with records := rest, readPos := 0 }.used < q.used := by
    have used := Rxq.used_of_records_cons records
    have size_pos := recordSize_pos oldest.length
    omega
  rw [Rxq.release, records, List.tail_cons, Rxq.fallen_of_lt fell]

theorem ownReleaseHead_of_head {s : State} (f : InFlight) (records : s.rxq.records = oldest :: rest) :
    ownReleaseHead f (s.busyWith .releaseHead) = (s.withRxq s.rxq.release).completed 0x20 .ok := by
  have head : s.rxq.head.isSome = true := by simp [Rxq.head, records]
  simp only [ownReleaseHead, busyWith_rxq, head, if_true, complete_busyWith_withRxq, Cmd.code]

theorem ownReleaseHead_of_no_head {s : State} (f : InFlight) (records : s.rxq.records = []) :
    ownReleaseHead f (s.busyWith .releaseHead) = s.completed 0x20 .empty := by
  have no_head : s.rxq.head.isSome = false := by simp [Rxq.head, records]
  simp only [ownReleaseHead, busyWith_rxq, no_head, if_false, Bool.false_eq_true, complete_busyWith, Cmd.code]

end Release

theorem exec_releaseHead_of_takes {s : State} (takes : s.Takes) :
    exec .releaseHead s =
      .next ((ownReleaseHead (s.cmu.capture .releaseHead) (s.busyWith .releaseHead)).wrote 0x07) :=
  congrArg Host.Outcome.next (hostWrite_takeCommand ownReleaseHead takes)

/-- Settles O31: with a head the release ends in OK and the used bytes fall by its size; without one it
ends in EMPTY. -/
theorem releaseHeadRemovesTheOldest : Obligations.ReleaseHeadRemovesTheOldest := by
  intro s takes
  rw [exec_releaseHead_of_takes takes]
  refine ⟨fun oldest rest records => ⟨?released, Rxq.used_of_records_cons records⟩, fun records => ?empty⟩
  case released =>
    rw [ownReleaseHead_of_head _ records, Rxq.release_of_records_cons records]
    rfl
  case empty =>
    rw [ownReleaseHead_of_no_head _ records]

end Sys2Proof.Machine
end

section
/-! ### The set of a flag, and the levels of IRQ and WAKE -/

namespace Sys2Proof.Machine

/-! #### Flags and their bits (Table 86) -/

/-- The flags in the order of their bits. -/
def Flag.inBitOrder : List Flag :=
  [.rx, .slot, .stale, .watermark, .qfull, .gap, .lineFault, .lineRecover, .cmdDone, .countSat]

theorem Flag.map_bit_inBitOrder : Flag.inBitOrder.map Flag.bit = List.range 10 := rfl

/-- The bit of a flag is its place in the order. -/
theorem Flag.inBitOrder_getElem?_bit (f : Flag) : Flag.inBitOrder[f.bit]? = some f := by
  cases f <;> rfl

theorem Flag.bit_lt (f : Flag) : f.bit < 10 :=
  (List.getElem?_eq_some_iff.mp f.inBitOrder_getElem?_bit).1

theorem Flag.bit_injective : Function.Injective Flag.bit := by
  intro f g same_bit
  have same_place : some f = some g := by
    rw [← f.inBitOrder_getElem?_bit, same_bit, g.inBitOrder_getElem?_bit]
  exact Option.some.inj same_place

/-- A set of flags has no bit that is not a flag's. -/
theorem Flag.exists_bit_eq {i : Nat} (lt : i < 10) : ∃ f : Flag, f.bit = i := by
  have place : i ∈ Flag.inBitOrder.map Flag.bit := by
    rw [Flag.map_bit_inBitOrder]
    exact List.mem_range.mpr lt
  obtain ⟨f, -, bit⟩ := List.mem_map.mp place
  exact ⟨f, bit⟩

/-! #### Membership in a set of flags -/

section Membership
variable {f g : Flag} {v w : FlagSet}

@[simp] theorem Flag.isIn_or : f.isIn (v ||| w) = (f.isIn v || f.isIn w) := BitVec.getLsbD_or

@[simp] theorem Flag.isIn_and : f.isIn (v &&& w) = (f.isIn v && f.isIn w) := BitVec.getLsbD_and

@[simp] theorem Flag.isIn_mask : g.isIn f.mask = decide (g = f) := by
  rw [Flag.isIn, Flag.mask, BitVec.getLsbD_ofNat, Nat.testBit_two_pow]
  simp [g.bit_lt, Flag.bit_injective.eq_iff, eq_comm]

theorem FlagSet.eq_zero_iff : v = 0 ↔ ∀ f : Flag, f.isIn v = false := by
  constructor
  · rintro rfl f
    exact BitVec.getLsbD_zero
  · intro none_in
    apply BitVec.eq_of_getLsbD_eq
    intro i lt
    obtain ⟨f, rfl⟩ := Flag.exists_bit_eq lt
    exact (none_in f).trans BitVec.getLsbD_zero.symm

theorem FlagSet.ne_zero_iff : v ≠ 0 ↔ ∃ f : Flag, f.isIn v = true := by
  simp only [ne_eq, FlagSet.eq_zero_iff, not_forall, Bool.not_eq_false]

end Membership

/-! #### The set of a flag (R149, R164) -/

section Raise
variable {f g : Flag} {n : Nwc}

@[simp] theorem Nwc.raise_flags : (n.raise f).flags = n.flags ||| f.mask := rfl

theorem Nwc.raise_wakeCause_of_joins (asleep : n.host = .asleep) (enabled : f.isIn n.wakeEn = true) :
    (n.raise f).wakeCause = n.wakeCause ||| f.mask :=
  if_pos ⟨asleep, enabled⟩

theorem Nwc.raise_wakeCause_of_not_joins (not_joins : ¬(n.host = .asleep ∧ f.isIn n.wakeEn = true)) :
    (n.raise f).wakeCause = n.wakeCause :=
  if_neg not_joins

theorem Nwc.isIn_raise_flags : g.isIn (n.raise f).flags = (g.isIn n.flags || decide (g = f)) := by
  rw [Nwc.raise_flags, Flag.isIn_or, Flag.isIn_mask]

/-- Of all names only that of the flag set can join WAKE_CAUSE. -/
theorem Nwc.isIn_raise_wakeCause :
    g.isIn (n.raise f).wakeCause =
      (g.isIn n.wakeCause || (decide (g = f) && decide (n.host = .asleep) && g.isIn n.wakeEn)) := by
  by_cases joins : n.host = .asleep ∧ f.isIn n.wakeEn = true
  · obtain ⟨asleep, enabled⟩ := joins
    rw [Nwc.raise_wakeCause_of_joins asleep enabled, Flag.isIn_or, Flag.isIn_mask]
    by_cases same : g = f
    · simp [same, asleep, enabled]
    · simp [same]
  · rw [Nwc.raise_wakeCause_of_not_joins joins]
    by_cases same : g = f
    · have no_join : (decide (n.host = .asleep) && f.isIn n.wakeEn) = false := by simpa using joins
      rw [same, Bool.and_assoc, no_join, Bool.and_false, Bool.or_false]
    · simp [same]

theorem Nwc.raise_frame :
    n.raise f = { n with flags := (n.raise f).flags, wakeCause := (n.raise f).wakeCause } := rfl

end Raise

/-! #### The levels (R153, R154) -/

section Levels
variable {n : Nwc} {s : State}

theorem Nwc.irq_iff :
    n.irq = true ↔ n.host = .awake ∧ ∃ f : Flag, f.isIn n.flags = true ∧ f.isIn n.irqEn = true := by
  have enabled_pending := FlagSet.ne_zero_iff (v := n.flags &&& n.irqEn)
  simp only [Flag.isIn_and, Bool.and_eq_true] at enabled_pending
  simp only [Nwc.irq, Bool.and_eq_true, decide_eq_true_eq, bne_iff_ne, enabled_pending]

theorem Nwc.wake_iff : n.wake = true ↔ n.host = .asleep ∧ n.wakeCause ≠ 0 := by
  simp only [Nwc.wake, Bool.and_eq_true, decide_eq_true_eq, bne_iff_ne]

/-- IRQ_N is active low. -/
theorem State.irqN_eq_false_iff : s.irqN = false ↔ s.nwc.irq = true := by
  simp only [State.irqN, Bool.not_eq_false']

end Levels

/-- Settles O38: a set flag by flag, and each pin's level as the rule for it gives it. -/
theorem flagSetsAndLevels : Obligations.FlagSetsAndLevels := by
  refine ⟨fun f g n => ⟨Nwc.isIn_raise_flags, Nwc.isIn_raise_wakeCause, Nwc.raise_frame⟩, fun s => ⟨?irq, ?wake⟩⟩
  case irq => exact State.irqN_eq_false_iff.trans Nwc.irq_iff
  case wake => exact Nwc.wake_iff

end Sys2Proof.Machine
end

section
/-! ### Writes to CMD: NOP, and the refusal while BUSY -/

namespace Sys2Proof.Machine

/-! #### NOP (R176) -/

section Nop
variable {s : State}

theorem ownNop_busyWith (f : InFlight) : ownNop f (s.busyWith .nop) = s.completed 0x01 .ok := complete_busyWith

theorem exec_nop_of_takes (takes : s.Takes) :
    exec .nop s = .next ((ownNop (s.cmu.capture .nop) (s.busyWith .nop)).wrote 0x07) :=
  congrArg Host.Outcome.next (hostWrite_takeCommand ownNop takes)

end Nop

/-- Settles O41: NOP's owner completes the command with OK in every line state, and touches no block. -/
theorem nopChangesNoBlock : Obligations.NopChangesNoBlock := by
  intro s takes
  rw [exec_nop_of_takes takes, ownNop_busyWith]

/-! #### The effect of each write to CMD (R171, R173) -/

theorem Cmd.ofCode_eq_none_iff {code : Byte} : Cmd.ofCode code = none ↔ code ∉ Config.commandCodes := by
  have codes : Config.commandCodes = Cmd.all.map Cmd.code := rfl
  simp only [Cmd.ofCode, List.find?_eq_none, codes, List.mem_map, beq_iff_eq, not_exists, not_and]

theorem writeCmd_of_unknown {code : Byte} (unknown : code ∉ Config.commandCodes) :
    writeCmd code = takeUnknown code := by
  funext s
  rw [writeCmd, Cmd.ofCode_eq_none_iff.2 unknown]

theorem exec_unknownCommand_of_unknown {code : Byte} (unknown : code ∉ Config.commandCodes) (s : State) :
    exec (.unknownCommand code) s = .next (hostWrite cmdAddr (takeUnknown code) s) := by
  rw [← writeCmd_of_unknown unknown]
  rfl

/-- A write to CMD other than SOFT RESET's is the taking of a command for its owner, or of a code that names
no command. -/
theorem exec_of_writesCmd {c : Instr} (writes : c.writesCmd = true) :
    (∃ cmd owner, ∀ s, exec c s = .next (hostWrite cmdAddr (takeCommand cmd owner) s)) ∨
      ∃ code, ∀ s, exec c s = .next (hostWrite cmdAddr (takeUnknown code) s) := by
  cases c with
  | unknownCommand code =>
    have unknown : code ∉ Config.commandCodes := by simpa [Instr.writesCmd] using writes
    exact .inr ⟨code, exec_unknownCommand_of_unknown unknown⟩
  | startLine | stopLine | pinSource | unpinSource | forgetSource | forgetUnpinned | readSource | commitEntry
  | clearEntry | readEntry | releaseHead | flushQueue | snapshotSlot | setSlotWatch | hostSleep | hostAwake
  | snapshotCounters | nop => exact .inl ⟨_, _, fun _ => rfl⟩
  | _ => cases writes

/-! #### Writes to CMD while BUSY (R172, R179) -/

section Busy
variable {s : State} {f : InFlight}

theorem takeCommand_of_busy (cmd : Cmd) (owner : InFlight → State → State) (busy : s.cmu.inFlight = some f) :
    takeCommand cmd owner s = s.withCmu { s.cmu with rejected := true } := by
  simp only [takeCommand, busy]

theorem takeUnknown_of_busy (code : Byte) (busy : s.cmu.inFlight = some f) :
    takeUnknown code s = s.withCmu { s.cmu with rejected := true } := by
  simp only [takeUnknown, busy]

/-- A data byte at CMD has its effect, and leaves the pointer past CMD (R189). -/
theorem hostWrite_cmdAddr {effect : State → State} (writes : s.WritesAt cmdAddr) :
    hostWrite cmdAddr effect s = (effect s).wrote 0x07 := by
  rw [hostWrite_of_WritesAt s effect writes, ptrAfter_cmdAddr]
  rfl

theorem exec_of_writesCmd_of_busy {c : Instr} (writesCmd : c.writesCmd = true) (writes : s.WritesAt cmdAddr)
    (busy : s.cmu.inFlight = some f) :
    exec c s = .next ((s.withCmu { s.cmu with rejected := true }).wrote 0x07) := by
  obtain ⟨cmd, owner, exec_eq⟩ | ⟨code, exec_eq⟩ := exec_of_writesCmd writesCmd
  · rw [exec_eq, hostWrite_cmdAddr writes, takeCommand_of_busy cmd owner busy]
  · rw [exec_eq, hostWrite_cmdAddr writes, takeUnknown_of_busy code busy]

theorem exec_softReset_of_writesAt (writes : s.WritesAt cmdAddr) :
    exec .softReset s = .next ((takeSoftReset s).wrote 0x07) :=
  congrArg Host.Outcome.next (hostWrite_cmdAddr writes)

@[simp] theorem wrote_cmu (next : RegAddr) : (s.wrote next).cmu = s.cmu := rfl

/-- The other blocks' parts of SOFT RESET complete no command, so the command unit's own part stands. -/
@[simp] theorem takeSoftReset_cmu : (takeSoftReset s).cmu = s.cmu.takeSoftReset := by
  simp [takeSoftReset]

@[simp] theorem Cmu.takeSoftReset_cmd (c : Cmu) : c.takeSoftReset.inFlight.map (·.cmd) = some .softReset := by
  cases inFlight : c.inFlight <;> simp [Cmu.takeSoftReset, Cmu.capture, inFlight]

@[simp] theorem Cmu.takeSoftReset_rejected (c : Cmu) : c.takeSoftReset.rejected = c.rejected := by
  cases inFlight : c.inFlight <;> simp [Cmu.takeSoftReset, inFlight]

end Busy

/-- Settles O42: while BUSY the taking of every other code only sets REJECTED; SOFT RESET replaces the command in
flight and leaves REJECTED as it was. -/
theorem busyWriteIsRefused : Obligations.BusyWriteIsRefused := by
  intro s f writes busy
  refine ⟨fun c writesCmd => exec_of_writesCmd_of_busy writesCmd writes busy,
    (takeSoftReset s).wrote 0x07, exec_softReset_of_writesAt writes, ?taken, ?rejectedStands⟩
  case taken => rw [wrote_cmu, takeSoftReset_cmu, Cmu.takeSoftReset_cmd]
  case rejectedStands => rw [wrote_cmu, takeSoftReset_cmu, Cmu.takeSoftReset_rejected]

end Sys2Proof.Machine
end

section
/-! ### The locked configuration registers -/

namespace Sys2Proof.Machine

/-! #### Writes (R194, R195) -/

section LockedWrites
variable {s : State} {reg : LockedReg} {v : Byte}

/-- OWN_ADDRESS holds 0 for each value above the highest node address, 247. -/
theorem LockedConfig.write_ownAddress (c : LockedConfig) :
    c.write .ownAddress v = { c with ownAddress := if 248 ≤ v.toNat then 0 else v } := by
  have above_iff : 248 ≤ v.toNat ↔ ¬v.toNat ≤ Config.maxNode := Nat.not_le.symm
  simp only [LockedConfig.write, above_iff, ite_not]

theorem writeLocked_of_dormant (dormant : s.clc.line = .dormant) :
    writeLocked reg v s = s.withCfg (s.cfg.write reg v) :=
  if_pos dormant

theorem writeLocked_of_not_dormant (not_dormant : s.clc.line ≠ .dormant) :
    writeLocked reg v s = s.withCmu { s.cmu with configLocked := true } :=
  if_neg not_dormant

/-- No locked register stands at a data port, so the pointer advances past it. -/
@[simp] theorem ptrAfter_lockedRegAddr (s : State) (reg : LockedReg) :
    ptrAfter s (lockedRegAddr reg) = lockedRegAddr reg + 1 := by
  have not_dataPort : isDataPort s (lockedRegAddr reg) = false := by cases reg <;> rfl
  exact ptrAfter_of_not_dataPort s not_dataPort

theorem exec_lockedRegisterWrite_of_writesAt (writes : s.WritesAt (lockedRegAddr reg)) :
    exec (.lockedRegisterWrite reg v) s = .next ((writeLocked reg v s).wrote (lockedRegAddr reg + 1)) := by
  have written := hostWrite_of_WritesAt s (writeLocked reg v) writes
  rw [ptrAfter_lockedRegAddr] at written
  exact congrArg Host.Outcome.next written

end LockedWrites

/-! #### Reads (Table 82) -/

section LockedReads
variable {s : State}

theorem readReg_of_common {addr : RegAddr} (common : addr.toNat < 0x40) :
    s.readReg addr = s.readCommon addr.toNat :=
  if_pos common

theorem readReg_ownAddress : s.readReg 0x17 = s.cfg.ownAddress := readReg_of_common (by decide)

theorem readReg_lineRate : s.readReg 0x18 = s.cfg.lineRate.setWidth 8 := readReg_of_common (by decide)

theorem readReg_filterMode : s.readReg 0x19 = s.cfg.filterMode.code := readReg_of_common (by decide)

theorem readReg_hashOn : s.readReg 0x1A = bitAt 0 s.cfg.hashOn := readReg_of_common (by decide)

theorem readReg_tickShift : s.readReg 0x1B = s.cfg.tickShift.setWidth 8 := readReg_of_common (by decide)

theorem readReg_settleSel : s.readReg 0x1C = s.cfg.settleSel.setWidth 8 := readReg_of_common (by decide)

theorem readReg_idleHold : s.readReg 0x1D = s.cfg.idleHold := readReg_of_common (by decide)

theorem FilterMode.code_eq_ite (m : FilterMode) : m.code = if m = .openMode then 1 else 0 := by
  cases m <;> rfl

end LockedReads

/-- Settles O48: the write is the line state's case of `writeLocked`, with R195's holding register by register;
each read shows its field, padded to a byte. -/
theorem configurationIsLocked : Obligations.ConfigurationIsLocked := by
  intro s reg v
  refine ⟨fun writes dormant => ?held, fun writes not_dormant => ?locked, readReg_ownAddress, ?lineRate,
    ?filterMode, ?hashOn, ?tickShift, ?settleSel, readReg_idleHold⟩
  case held =>
    rw [exec_lockedRegisterWrite_of_writesAt writes, writeLocked_of_dormant dormant]
    cases reg with
    | ownAddress => rw [LockedConfig.write_ownAddress]; rfl
    | lineRate | filterMode | hashOn | tickShift | settleSel | idleHold => rfl
  case locked =>
    rw [exec_lockedRegisterWrite_of_writesAt writes, writeLocked_of_not_dormant not_dormant]
    rfl
  case lineRate => rw [readReg_lineRate, BitVec.toNat_setWidth_of_le (by decide)]
  case filterMode => rw [readReg_filterMode, FilterMode.code_eq_ite]
  case hashOn => rw [readReg_hashOn]; rfl
  case tickShift => rw [readReg_tickShift, BitVec.toNat_setWidth_of_le (by decide)]
  case settleSel => rw [readReg_settleSel, BitVec.toNat_setWidth_of_le (by decide)]

end Sys2Proof.Machine
end

section
/-! ### What the shared operations do to the blocks they change

One lemma for each shared operation and block; the frames under Laws say what it leaves. -/

namespace Sys2Proof.Machine

/-! #### States block by block -/

/-- Two states that agree in every block are the same. -/
theorem State.ext_blocks {s t : State} (lrx : s.lrx = t.lrx) (inReset : s.inReset = t.inReset)
    (cfg : s.cfg = t.cfg) (tkg : s.tkg = t.tkg) (clc : s.clc = t.clc) (lrv : s.lrv = t.lrv)
    (srt : s.srt = t.srt) (acf : s.acf = t.acf) (rxq : s.rxq = t.rxq) (lvs : s.lvs = t.lvs)
    (rsp : s.rsp = t.rsp) (nwc : s.nwc = t.nwc) (cmu : s.cmu = t.cmu) (ctb : s.ctb = t.ctb)
    (spi : s.spi = t.spi) (pending : s.pending = t.pending) : s = t := by
  cases s
  cases t
  subst_vars
  rfl

/-! #### Flags and counters (R149, R183) -/

section Counting
variable {s : State} {k j : Counter} {f g : Flag} {n : Nat}

@[simp] theorem raise_nwc : (raise f s).nwc = s.nwc.raise f := rfl

@[simp] theorem Counts.get_set_same (c : Counts) (k : Counter) (v : Nat) : (c.set k v).get k = v := by
  cases k <;> rfl

theorem Counts.get_set_of_ne (c : Counts) (v : Nat) (ne : j ≠ k) : (c.set k v).get j = c.get j := by
  revert ne
  cases k <;> cases j <;> simp [Counts.set, Counts.get]

@[simp] theorem countBy_ctb :
    (countBy k n s).ctb =
      { s.ctb with live := s.ctb.live.set k (satAdd Config.counterTop (s.ctb.live.get k) n) } := by
  unfold countBy
  dsimp only
  split <;> rfl

theorem countBy_nwc_of_sat (below : s.ctb.live.get k < 65535) (reached : 65535 ≤ s.ctb.live.get k + n) :
    (countBy k n s).nwc = s.nwc.raise .countSat := by
  have sat : s.ctb.live.get k < Config.counterTop ∧
      satAdd Config.counterTop (s.ctb.live.get k) n = Config.counterTop :=
    ⟨below, Nat.min_eq_left reached⟩
  simp [countBy, sat]

theorem countBy_nwc_of_not_sat (h : 65535 ≤ s.ctb.live.get k ∨ s.ctb.live.get k + n < 65535) :
    (countBy k n s).nwc = s.nwc := by
  have not_sat : ¬(s.ctb.live.get k < Config.counterTop ∧
      satAdd Config.counterTop (s.ctb.live.get k) n = Config.counterTop) := by
    simp only [satAdd, Config.counterTop]
    omega
  simp [countBy, not_sat]

theorem countBy_nwc (k : Counter) (n : Nat) (s : State) :
    (countBy k n s).nwc = s.nwc ∨ (countBy k n s).nwc = s.nwc.raise .countSat := by
  by_cases h : 65535 ≤ s.ctb.live.get k ∨ s.ctb.live.get k + n < 65535
  · exact .inl (countBy_nwc_of_not_sat h)
  · exact .inr (countBy_nwc_of_sat (by omega) (by omega))

theorem get_countBy : (countBy k n s).ctb.live.get k = min 65535 (s.ctb.live.get k + n) := by
  simp [satAdd, Config.counterTop]

theorem get_countBy_of_ne (ne : j ≠ k) : (countBy k n s).ctb.live.get j = s.ctb.live.get j := by
  simp [Counts.get_set_of_ne _ _ ne]

theorem get_count : (count k s).ctb.live.get k = min 65535 (s.ctb.live.get k + 1) := get_countBy

theorem get_count_of_ne (ne : j ≠ k) : (count k s).ctb.live.get j = s.ctb.live.get j := get_countBy_of_ne ne

@[simp] theorem Nwc.isIn_raise (n : Nwc) : g.isIn (n.raise f).flags = (g.isIn n.flags || decide (g = f)) :=
  Nwc.isIn_raise_flags

end Counting

/-! #### Completions, a command in flight, and the port's move: what they leave -/

/-- A completion changes nothing of the part but cmu, nwc. -/
@[simp] theorem completed_frame (s : State) (code : Byte) (r : CmdResult) :
    (s.completed code r).lrx = s.lrx ∧ (s.completed code r).inReset = s.inReset ∧
      (s.completed code r).cfg = s.cfg ∧ (s.completed code r).tkg = s.tkg ∧
      (s.completed code r).clc = s.clc ∧ (s.completed code r).lrv = s.lrv ∧
      (s.completed code r).srt = s.srt ∧ (s.completed code r).acf = s.acf ∧
      (s.completed code r).rxq = s.rxq ∧ (s.completed code r).lvs = s.lvs ∧
      (s.completed code r).rsp = s.rsp ∧ (s.completed code r).ctb = s.ctb ∧
      (s.completed code r).spi = s.spi ∧ (s.completed code r).pending = s.pending :=
  ⟨rfl, rfl, rfl, rfl, rfl, rfl, rfl, rfl, rfl, rfl, rfl, rfl, rfl, rfl⟩

/-- A command in flight changes nothing of the part but cmu. -/
@[simp] theorem busyWith_frame (s : State) (cmd : Cmd) :
    (s.busyWith cmd).lrx = s.lrx ∧ (s.busyWith cmd).inReset = s.inReset ∧ (s.busyWith cmd).cfg = s.cfg ∧
      (s.busyWith cmd).tkg = s.tkg ∧ (s.busyWith cmd).clc = s.clc ∧ (s.busyWith cmd).lrv = s.lrv ∧
      (s.busyWith cmd).srt = s.srt ∧ (s.busyWith cmd).acf = s.acf ∧ (s.busyWith cmd).rxq = s.rxq ∧
      (s.busyWith cmd).lvs = s.lvs ∧ (s.busyWith cmd).rsp = s.rsp ∧ (s.busyWith cmd).nwc = s.nwc ∧
      (s.busyWith cmd).ctb = s.ctb ∧ (s.busyWith cmd).spi = s.spi ∧ (s.busyWith cmd).pending = s.pending :=
  ⟨rfl, rfl, rfl, rfl, rfl, rfl, rfl, rfl, rfl, rfl, rfl, rfl, rfl, rfl, rfl⟩

/-- The port's move after a data byte written changes nothing of the part but spi. -/
@[simp] theorem wrote_frame (s : State) (next : RegAddr) :
    (s.wrote next).lrx = s.lrx ∧ (s.wrote next).inReset = s.inReset ∧ (s.wrote next).cfg = s.cfg ∧
      (s.wrote next).tkg = s.tkg ∧ (s.wrote next).clc = s.clc ∧ (s.wrote next).lrv = s.lrv ∧
      (s.wrote next).srt = s.srt ∧ (s.wrote next).acf = s.acf ∧ (s.wrote next).rxq = s.rxq ∧
      (s.wrote next).lvs = s.lvs ∧ (s.wrote next).rsp = s.rsp ∧ (s.wrote next).nwc = s.nwc ∧
      (s.wrote next).cmu = s.cmu ∧ (s.wrote next).ctb = s.ctb ∧ (s.wrote next).pending = s.pending :=
  ⟨rfl, rfl, rfl, rfl, rfl, rfl, rfl, rfl, rfl, rfl, rfl, rfl, rfl, rfl, rfl⟩

@[simp] theorem completed_nwc (s : State) (code : Byte) (r : CmdResult) :
    (s.completed code r).nwc = s.nwc.raise .cmdDone := rfl

@[simp] theorem completed_cmu (s : State) (code : Byte) (r : CmdResult) :
    (s.completed code r).cmu = { s.cmu with last := code, result := r, inFlight := none } := rfl

@[simp] theorem busyWith_cmu (s : State) (cmd : Cmd) :
    (s.busyWith cmd).cmu =
      { s.cmu with inFlight := some ⟨cmd, s.cmu.arg, s.cmu.paramH ++ s.cmu.paramL, 0⟩ } := rfl

@[simp] theorem wrote_spi (s : State) (next : RegAddr) :
    (s.wrote next).spi = { s.spi with ptr := next, out := 0, late := ⟨0, []⟩ } := rfl

/-! #### Sets of flags: what a chain of them leaves -/

/-- `n'` is `n` after sets of flags that leave RX alone: pending flags stay, and only the flags and WAKE_CAUSE
differ. -/
structure Nwc.Raised (n n' : Nwc) : Prop where
  keeps : n' = { n with flags := n'.flags, wakeCause := n'.wakeCause }
  stays : ∀ f : Flag, f.isIn n.flags = true → f.isIn n'.flags = true
  rx : Flag.rx.isIn n'.flags = Flag.rx.isIn n.flags

namespace Nwc.Raised
variable {n n' n'' : Nwc}

theorem refl (n : Nwc) : n.Raised n := ⟨rfl, fun _ h => h, rfl⟩

theorem trans (h : n.Raised n') (h' : n'.Raised n'') : n.Raised n'' where
  keeps := by rw [h'.keeps, h.keeps]
  stays f pending := h'.stays f (h.stays f pending)
  rx := h'.rx.trans h.rx

theorem raise {f : Flag} (n : Nwc) (not_rx : f ≠ .rx) : n.Raised (n.raise f) where
  keeps := Nwc.raise_frame
  stays g pending := by simp [pending]
  rx := by simp [not_rx.symm]

end Nwc.Raised

theorem Nwc.Raised.raise_cmdDone (n : Nwc) : n.Raised (n.raise .cmdDone) := .raise n (by decide)

theorem Nwc.Raised.doneIf (waited : Bool) (n : Nwc) : n.Raised (n.doneIf waited) := by
  cases waited
  · exact .refl n
  · exact .raise_cmdDone n

theorem countBy_raised (k : Counter) (n : Nat) (s : State) : s.nwc.Raised (countBy k n s).nwc := by
  obtain same | sat := countBy_nwc k n s
  · rw [same]; exact .refl _
  · rw [sat]; exact .raise _ (by decide)

theorem count_raised (k : Counter) (s : State) : s.nwc.Raised (count k s).nwc := countBy_raised k 1 s

/-- Counting sets no flag but COUNT_SAT. -/
theorem isIn_countBy_nwc {f : Flag} (k : Counter) (n : Nat) (s : State) (ne : f ≠ .countSat) :
    f.isIn (countBy k n s).nwc.flags = f.isIn s.nwc.flags := by
  obtain same | sat := countBy_nwc k n s
  · rw [same]
  · rw [sat]; simp [ne]

theorem isIn_count_nwc {f : Flag} (k : Counter) (s : State) (ne : f ≠ .countSat) :
    f.isIn (count k s).nwc.flags = f.isIn s.nwc.flags := isIn_countBy_nwc k 1 s ne

/-! #### Completion, and the commands that wait (R52, R77, R174) -/

section Waiting
variable {s : State} {f : InFlight} {r : CmdResult}

theorem complete_of_idle (idle : s.cmu.inFlight = none) : complete r s = s := by
  simp only [complete, idle]

theorem complete_inFlight (r : CmdResult) (s : State) : (complete r s).cmu.inFlight = none := by
  cases busy : s.cmu.inFlight with
  | none => rw [complete_of_idle busy, busy]
  | some f => rw [complete_of_inFlight busy]; rfl

theorem complete_raised (r : CmdResult) (s : State) : s.nwc.Raised (complete r s).nwc := by
  cases busy : s.cmu.inFlight with
  | none => rw [complete_of_idle busy]; exact .refl _
  | some f => rw [complete_of_inFlight busy]; exact .raise_cmdDone _

/-- A source command's turn with no relation in hand: what `State.sourceRun` gives, and CMD_DONE. -/
theorem sourceTurn_eq (free : s.srt.inHand = none) :
    sourceTurn s = { s with
      srt := (s.sourceRun s.srt).1, cmu := (s.sourceRun s.srt).2, nwc := s.nwc.doneIf s.sourceWaits } := by
  cases busy : s.cmu.inFlight with
  | none => simp [sourceTurn, State.sourceRun, State.sourceWaits, Nwc.doneIf, busy]
  | some f =>
    cases source : f.cmd.isSource with
    | false => simp [sourceTurn, State.sourceRun, State.sourceWaits, Nwc.doneIf, busy, source]
    | true =>
      have runs : sourceTurn s = runSource f s := by simp [sourceTurn, busy, source, free]
      rw [runs, runSource, complete_of_inFlight (f := f) (by exact busy)]
      simp [State.sourceRun, State.sourceWaits, Nwc.doneIf, busy, source, State.completed, Cmu.ended, State.withSrt]

/-- An entry command's turn with no classification in flight: what `State.entryRun` gives, and CMD_DONE. -/
theorem entryTurn_eq (free : s.acf.job = none) :
    entryTurn s = { s with
      acf := (s.entryRun s.acf).1, cmu := (s.entryRun s.acf).2, nwc := s.nwc.doneIf s.entryWaits } := by
  cases busy : s.cmu.inFlight with
  | none => simp [entryTurn, State.entryRun, State.entryWaits, Nwc.doneIf, busy]
  | some f =>
    cases entry : f.cmd.isEntry with
    | false => simp [entryTurn, State.entryRun, State.entryWaits, Nwc.doneIf, busy, entry]
    | true =>
      have runs : entryTurn s = runEntry f s := by simp [entryTurn, busy, entry, free]
      rw [runs, runEntry, complete_of_inFlight (f := f) (by exact busy)]
      simp [State.entryRun, State.entryWaits, Nwc.doneIf, busy, entry, State.completed, Cmu.ended, State.withAcf]

theorem sourceTurn_of_waiting (inHand : s.srt.inHand ≠ none) : sourceTurn s = s := by
  unfold sourceTurn
  split
  · rfl
  · simp [inHand]

theorem entryTurn_of_waiting (job : s.acf.job ≠ none) : entryTurn s = s := by
  unfold entryTurn
  split
  · rfl
  · simp [job]

end Waiting

/-! #### Classification completion (R68) -/

section Classification
variable {s : State} {j : ClassJob} {h : Header} {r : Classified}

/-- The queue after the claim of a frame: the watermark's rise takes the arm (R91, R92, R107). -/
def Rxq.claimed (h : Header) (r : Classified) (q : Rxq) : Rxq :=
  { q.claimFor h r with arm := q.arm && !(q.fits h && !belowLevel q.watermark (q.claimFor h r).used) }

/-- The claim is a rise of the watermark (R107). -/
def Rxq.claimRises (h : Header) (r : Classified) (q : Rxq) : Bool :=
  q.fits h && q.arm && !belowLevel q.watermark (q.claimFor h r).used

theorem claimSpace_eq :
    claimSpace h r s = { s with
      rxq := s.rxq.claimed h r
      nwc := if s.rxq.claimRises h r then s.nwc.raise .watermark else s.nwc } := by
  cases fits : s.rxq.fits h <;> cases arm : s.rxq.arm <;>
    cases below : belowLevel s.rxq.watermark (s.rxq.claimFor h r).used <;>
    simp_all [claimSpace, Rxq.claimed, Rxq.claimRises, Rxq.claimFor, State.withRxq, raise, State.withNwc]

/-- The queue after a classification with this result has completed. -/
def Rxq.classified (h : Header) (r : Classified) (q : Rxq) : Rxq :=
  if r.action.queues then q.claimed h r else q

/-- The notification unit after a classification with this result has completed at this queue. -/
def Nwc.classified (h : Header) (r : Classified) (q : Rxq) (n : Nwc) : Nwc :=
  if r.action.queues && q.claimRises h r then n.raise .watermark else n

theorem finishClassification_of_none (none_in_flight : s.acf.job = none) : finishClassification s = s := by
  simp only [finishClassification, none_in_flight]

theorem finishClassification_eq (job : s.acf.job = some j) :
    finishClassification s =
      let r := classify s.cfg s.acf.hash j
      let left := s.entryRun { s.acf with job := none, held := some ⟨r, false⟩ }
      { s with
        acf := left.1
        cmu := left.2
        rxq := s.rxq.classified j.hdr r
        lvs := { s.lvs with held := if r.action.updates then r.slot else none }
        rsp := { s.rsp with inputs := s.rsp.inputs.map fun i =>
          { i with action := some r.action, mark := queueMark r (s.rxq.classified j.hdr r) } }
        nwc := (s.nwc.classified j.hdr r s.rxq).doneIf s.entryWaits } := by
  simp only [finishClassification, job]
  cases queues : (classify s.cfg s.acf.hash j).action.queues with
  | false =>
    rw [if_neg Bool.false_ne_true, entryTurn_eq rfl]
    simp only [Rxq.classified, Nwc.classified, queues, Bool.false_and, if_neg Bool.false_ne_true]
    rfl
  | true =>
    rw [if_pos rfl, claimSpace_eq, entryTurn_eq rfl]
    simp only [Rxq.classified, Nwc.classified, queues, Bool.true_and, if_pos]
    rfl

/-- Of the store, classification completion sets the slot held for the frame only. -/
theorem finishClassification_lvs :
    (finishClassification s).lvs = { s.lvs with held := (finishClassification s).lvs.held } := by
  cases job : s.acf.job with
  | none => rw [finishClassification_of_none job]
  | some j => rw [finishClassification_eq job]

end Classification

end Sys2Proof.Machine
end

section
/-! ### Frame commit, frame abandon and the loss of a frame, block by block (R27, R28) -/

namespace Sys2Proof.Machine

/-! #### Each block's part of a commit -/

/-- The queue's part: the reservation turns into a record, the mark goes (R94, R95). -/
def Rxq.commit (stamp : Stamp) (payload : List Byte) (q : Rxq) : Rxq :=
  match q.claim with
  | .nothing => q
  | .reserved h r => q.push (recordOf h r stamp payload)
  | .queueFull => { q with claim := .nothing }

/-- The store's part: the update reaches the slot held for the frame (R116). -/
def Lvs.commit (u : SlotContent) (l : Lvs) : Lvs :=
  match l.held with
  | none => l
  | some n => { l.update n u with held := none }

/-- The responder's part: a verdict begins the wait with its response (R137, R140). -/
def Rsp.commit (own : Byte) (r : Rsp) : Rsp :=
  match r.inputs with
  | none => r
  | some i =>
    match fixVerdict i with
    | none => { r with inputs := none }
    | some v => ⟨.waiting (responseFrame own i.source i.seq v), none⟩

/-- What the frame in the buffer writes into its slot (R116). -/
def State.slotUpdate (s : State) : SlotContent :=
  let h := headerOf s.lrv.buffer.hdr
  ⟨h.source, h.topic, h.seq, h.length, s.lrv.buffer.payload, s.tkg.tickCount⟩

section Parts
variable {s : State} {v : Option Verdict} {p : List Byte} {h : Header} {f : Flag} {k : Counter}

@[simp] theorem reportRelation_srt (r : Relation) : (reportRelation r s).srt = s.srt := by
  cases r <;> simp [reportRelation]

@[simp] theorem commitSource_srt : (commitSource v s).srt = s.srt.commit v s.tkg.tickCount := by
  cases inHand : s.srt.inHand <;> simp [commitSource, Srt.commit, inHand]

@[simp] theorem commitFilter_acf : (commitFilter s).acf = s.acf.commit := by
  cases held : s.acf.held with
  | none => simp [commitFilter, Acf.commit, held]
  | some r =>
    simp only [commitFilter, held]
    split <;> simp

@[simp] theorem commitQueue_rxq : (commitQueue p s).rxq = s.rxq.commit s.tkg.tickCount p := by
  cases claim : s.rxq.claim <;> simp [commitQueue, Rxq.commit, claim]

@[simp] theorem commitSlot_lvs :
    (commitSlot h p s).lvs = s.lvs.commit ⟨h.source, h.topic, h.seq, h.length, p, s.tkg.tickCount⟩ := by
  cases held : s.lvs.held with
  | none => simp [commitSlot, Lvs.commit, held]
  | some n =>
    simp only [commitSlot, Lvs.commit, held]
    split <;> simp

@[simp] theorem commitResponse_rsp : (commitResponse s).rsp = s.rsp.commit s.cfg.ownAddress := by
  cases inputs : s.rsp.inputs with
  | none => simp [commitResponse, Rsp.commit, inputs]
  | some i => cases fixed : fixVerdict i <;> simp [commitResponse, Rsp.commit, inputs, fixed]

/-! #### The counts of a commit -/

theorem get_reportRelation_of_ne {r : Relation} (gap : k ≠ .gapFrames) (resync : k ≠ .resyncs)
    (dup : k ≠ .duplicates) (untracked : k ≠ .untracked) :
    (reportRelation r s).ctb.live.get k = s.ctb.live.get k := by
  cases r <;> simp [reportRelation, count, Counts.get_set_of_ne, *]

theorem get_commitSource_of_ne (gap : k ≠ .gapFrames) (resync : k ≠ .resyncs) (dup : k ≠ .duplicates)
    (untracked : k ≠ .untracked) : (commitSource v s).ctb.live.get k = s.ctb.live.get k := by
  cases inHand : s.srt.inHand with
  | none => simp [commitSource, inHand]
  | some r =>
    simp only [commitSource, inHand]
    rw [get_reportRelation_of_ne gap resync dup untracked, State.withSrt_ctb]

theorem get_commitFilter_of_ne (ne : k ≠ .filtered) : (commitFilter s).ctb.live.get k = s.ctb.live.get k := by
  cases held : s.acf.held with
  | none => simp [commitFilter, held]
  | some r =>
    simp only [commitFilter, held]
    split
    · rw [get_count_of_ne ne]; rfl
    · rfl

theorem get_commitQueue_of_ne (ne : k ≠ .qfullDrops) : (commitQueue p s).ctb.live.get k = s.ctb.live.get k := by
  cases claim : s.rxq.claim with
  | nothing | reserved h r => simp [commitQueue, claim]
  | queueFull => simp [commitQueue, claim, count, Counts.get_set_of_ne _ _ ne]

/-! #### The flags of a commit: every part but the record's leaves RX and the mitigation -/

theorem reportRelation_raised (r : Relation) (s : State) : s.nwc.Raised (reportRelation r s).nwc := by
  cases r with
  | gap n => exact (countBy_raised .gapFrames n s).trans (.raise _ (by decide))
  | resync => exact (count_raised .resyncs s).trans (.raise _ (by decide))
  | duplicate => exact count_raised .duplicates s
  | untracked => exact count_raised .untracked s
  | first | next | retry => exact .refl _

theorem commitSource_raised (v : Option Verdict) (s : State) : s.nwc.Raised (commitSource v s).nwc := by
  cases inHand : s.srt.inHand with
  | none => simp only [commitSource, inHand]; exact .refl _
  | some r =>
    simp only [commitSource, inHand]
    exact reportRelation_raised r.relation (s.withSrt (s.srt.commit v s.tkg.tickCount))

theorem commitFilter_raised (s : State) : s.nwc.Raised (commitFilter s).nwc := by
  cases held : s.acf.held with
  | none => simp only [commitFilter, held]; exact .refl _
  | some r =>
    simp only [commitFilter, held]
    split
    · exact count_raised .filtered (s.withAcf s.acf.commit)
    · exact .refl _

theorem commitSlot_raised (h : Header) (p : List Byte) (s : State) : s.nwc.Raised (commitSlot h p s).nwc := by
  cases held : s.lvs.held with
  | none => simp only [commitSlot, held]; exact .refl _
  | some n =>
    simp only [commitSlot, held]
    split
    · exact .raise _ (by decide)
    · exact .refl _

theorem commitQueue_nwc_of_reserved {r : Classified} (claim : s.rxq.claim = .reserved h r) :
    (commitQueue p s).nwc = s.nwc.recordCommit r.urgent := by
  simp [commitQueue, claim]

theorem commitQueue_raised (not_reserved : ∀ h r, s.rxq.claim ≠ .reserved h r) :
    s.nwc.Raised (commitQueue p s).nwc := by
  cases claim : s.rxq.claim with
  | nothing => simp only [commitQueue, claim]; exact .refl _
  | reserved h r => exact absurd claim (not_reserved h r)
  | queueFull =>
    simp only [commitQueue, claim]
    exact (count_raised .qfullDrops (s.withRxq { s.rxq with claim := .nothing })).trans
      (.raise (f := .qfull) _ (by decide))

end Parts

/-! #### Frame commit (R27) -/

section Commit
variable {s : State}

theorem sourceRun_congr {s' : State} (left : Srt) (cmu : s'.cmu = s.cmu) (tkg : s'.tkg = s.tkg) :
    s'.sourceRun left = s.sourceRun left := by
  simp only [State.sourceRun, cmu, tkg]

theorem sourceWaits_congr {s' : State} (cmu : s'.cmu = s.cmu) : s'.sourceWaits = s.sourceWaits := by
  simp only [State.sourceWaits, cmu]

@[simp] theorem Srt.commit_inHand (v : Option Verdict) (stamp : Stamp) (t : Srt) :
    (t.commit v stamp).inHand = none := by
  cases inHand : t.inHand <;> simp [Srt.commit, inHand]

/-- The source tracker after its part of the commit of the frame in flight (R46 to R50). -/
def State.committedSrt (s : State) : Srt := s.srt.commit (s.rsp.inputs.bind fixVerdict) s.tkg.tickCount

/-- The part at frame commit before the receiver enters HUNT and a waiting source command has its turn. -/
def commitBlocks (s : State) : State :=
  commitResponse (commitSlot (headerOf s.lrv.buffer.hdr) s.lrv.buffer.payload
    (commitQueue s.lrv.buffer.payload (commitFilter
      (commitSource (s.rsp.inputs.bind fixVerdict) (count .framesGood s)))))

theorem commitFrame_eq (s : State) : commitFrame s = sourceTurn (enterHunt (commitBlocks s)) := rfl

@[simp] theorem commitBlocks_frame :
    (commitBlocks s).lrx = s.lrx ∧ (commitBlocks s).inReset = s.inReset ∧ (commitBlocks s).cfg = s.cfg ∧
      (commitBlocks s).tkg = s.tkg ∧ (commitBlocks s).clc = s.clc ∧ (commitBlocks s).lrv = s.lrv ∧
      (commitBlocks s).cmu = s.cmu ∧ (commitBlocks s).spi = s.spi ∧ (commitBlocks s).pending = s.pending := by
  simp [commitBlocks]

@[simp] theorem commitBlocks_srt : (commitBlocks s).srt = s.committedSrt := by
  simp [commitBlocks, State.committedSrt]

/-- The state in which a source command that waited has its turn at the commit has no relation in hand. -/
theorem commitFrame_turn (s : State) :
    commitFrame s = { enterHunt (commitBlocks s) with
      srt := (s.sourceRun s.committedSrt).1
      cmu := (s.sourceRun s.committedSrt).2
      nwc := (commitBlocks s).nwc.doneIf s.sourceWaits } := by
  have free : (enterHunt (commitBlocks s)).srt.inHand = none := by simp [State.committedSrt]
  have run := sourceRun_congr (s := s) (s' := enterHunt (commitBlocks s)) s.committedSrt (by simp) (by simp)
  have waits := sourceWaits_congr (s := s) (s' := enterHunt (commitBlocks s)) (by simp)
  rw [commitFrame_eq, sourceTurn_eq free]
  simp [run, waits]

@[simp] theorem commitFrame_srt : (commitFrame s).srt = (s.sourceRun s.committedSrt).1 := by
  rw [commitFrame_turn]

@[simp] theorem commitFrame_cmu : (commitFrame s).cmu = (s.sourceRun s.committedSrt).2 := by
  rw [commitFrame_turn]

@[simp] theorem commitFrame_lrv : (commitFrame s).lrv = { s.lrv with
    rx := .hunt, mode := .framed, high := none, skipIdle := none } := by
  rw [commitFrame_turn]
  simp [enterHunt]

@[simp] theorem commitFrame_acf : (commitFrame s).acf = s.acf.commit := by
  rw [commitFrame_turn]
  simp [commitBlocks]

@[simp] theorem commitFrame_rxq :
    (commitFrame s).rxq = s.rxq.commit s.tkg.tickCount s.lrv.buffer.payload := by
  rw [commitFrame_turn]
  simp [commitBlocks]

@[simp] theorem commitFrame_lvs : (commitFrame s).lvs = s.lvs.commit s.slotUpdate := by
  rw [commitFrame_turn]
  simp [commitBlocks, State.slotUpdate]

@[simp] theorem commitFrame_rsp : (commitFrame s).rsp = s.rsp.commit s.cfg.ownAddress := by
  rw [commitFrame_turn]
  simp [commitBlocks]

theorem commitFrame_nwc : (commitFrame s).nwc = (commitBlocks s).nwc.doneIf s.sourceWaits := by
  rw [commitFrame_turn]

theorem commitFrame_ctb : (commitFrame s).ctb = (commitBlocks s).ctb := by
  rw [commitFrame_turn]
  simp

end Commit

/-! #### Frame abandon and the loss of a frame (R28) -/

section Loss
variable {s : State}

@[simp] theorem abandonFrame_lrv : (abandonFrame s).lrv = { s.lrv with buffer := .empty } := rfl
@[simp] theorem abandonFrame_srt : (abandonFrame s).srt = { s.srt with inHand := none } := rfl
@[simp] theorem abandonFrame_acf : (abandonFrame s).acf = { s.acf with job := none, held := none } := rfl
@[simp] theorem abandonFrame_rxq : (abandonFrame s).rxq = s.rxq.abandon := rfl
@[simp] theorem abandonFrame_lvs : (abandonFrame s).lvs = { s.lvs with held := none } := rfl
@[simp] theorem abandonFrame_rsp : (abandonFrame s).rsp = { s.rsp with inputs := none } := rfl

/-- The loss of a frame: its classification completes, every block discards, and a source command that waited
has its turn with no relation in hand (R28, R52). -/
theorem loseFrame_eq (s : State) :
    loseFrame s = { abandonFrame (finishClassification s) with
      srt := ((finishClassification s).sourceRun { s.srt with inHand := none }).1
      cmu := ((finishClassification s).sourceRun { s.srt with inHand := none }).2
      nwc := (finishClassification s).nwc.doneIf (finishClassification s).sourceWaits } := by
  have run := sourceRun_congr (s := finishClassification s) (s' := abandonFrame (finishClassification s))
    { s.srt with inHand := none } (by simp) (by simp)
  have waits := sourceWaits_congr (s := finishClassification s)
    (s' := abandonFrame (finishClassification s)) (by simp)
  rw [loseFrame, sourceTurn_eq rfl]
  simp [run, waits]

@[simp] theorem loseFrame_lrv : (loseFrame s).lrv = { s.lrv with buffer := .empty } := by
  rw [loseFrame_eq]; simp
@[simp] theorem loseFrame_acf :
    (loseFrame s).acf = { (finishClassification s).acf with job := none, held := none } := by
  rw [loseFrame_eq]; rfl
@[simp] theorem loseFrame_rxq : (loseFrame s).rxq = (finishClassification s).rxq.abandon := by
  rw [loseFrame_eq]; rfl
@[simp] theorem loseFrame_lvs : (loseFrame s).lvs = { s.lvs with held := none } := by
  rw [loseFrame_eq]
  change { (finishClassification s).lvs with held := none } = _
  rw [finishClassification_lvs]
@[simp] theorem loseFrame_rsp : (loseFrame s).rsp = { (finishClassification s).rsp with inputs := none } := by
  rw [loseFrame_eq]; rfl
theorem loseFrame_srt :
    (loseFrame s).srt = ((finishClassification s).sourceRun { s.srt with inHand := none }).1 := by
  rw [loseFrame_eq]
theorem loseFrame_cmu :
    (loseFrame s).cmu = ((finishClassification s).sourceRun { s.srt with inHand := none }).2 := by
  rw [loseFrame_eq]
theorem loseFrame_nwc :
    (loseFrame s).nwc = (finishClassification s).nwc.doneIf (finishClassification s).sourceWaits := by
  rw [loseFrame_eq]

end Loss

end Sys2Proof.Machine
end

section
/-! ### What a step can do

`exec` and `step` taken apart once: each event with the state it leaves, and each data byte written with what
it does before the port's own move. -/

namespace Sys2Proof.Machine

/-! #### Owners -/

/-- The owner of each command but SOFT RESET, which has none to hand it to (R171, Table 74). -/
def Cmd.owner : Cmd → InFlight → State → State
  | .nop => ownNop | .startLine => ownStartLine | .stopLine => ownStopLine
  | .releaseHead => ownReleaseHead | .flushQueue => ownFlushQueue
  | .snapshotSlot => ownSnapshotSlot | .setSlotWatch => ownSetSlotWatch
  | .commitEntry | .clearEntry | .readEntry => ownEntry
  | .pinSource | .unpinSource | .forgetSource => ownNamedSource
  | .forgetUnpinned | .readSource => ownSource
  | .snapshotCounters => ownSnapshotCounters
  | .hostSleep => ownHostSleep | .hostAwake => ownHostAwake
  | .softReset => fun _ s => s

section Owners
variable {s : State} {cmd : Cmd} {f : InFlight}

theorem sourceTurn_busyWith (source : cmd.isSource = true) (free : s.srt.inHand = none) :
    sourceTurn (s.busyWith cmd) =
      (s.withSrt (sourceEffect cmd s.cmu.arg s.tkg.tickCount s.srt).1).completed cmd.code
        (sourceEffect cmd s.cmu.arg s.tkg.tickCount s.srt).2 := by
  have runs : sourceTurn (s.busyWith cmd) =
      runSource ⟨cmd, s.cmu.arg, s.cmu.paramH ++ s.cmu.paramL, 0⟩ (s.busyWith cmd) := by
    simp [sourceTurn, State.busyWith, source, free]
  rw [runs, runSource]
  exact complete_busyWith (s := s.withSrt (sourceEffect cmd s.cmu.arg s.tkg.tickCount s.srt).1)

theorem sourceTurn_busyWith_of_inHand (inHand : s.srt.inHand ≠ none) :
    sourceTurn (s.busyWith cmd) = s.busyWith cmd :=
  sourceTurn_of_waiting inHand

theorem entryTurn_busyWith (entry : cmd.isEntry = true) (free : s.acf.job = none) :
    entryTurn (s.busyWith cmd) =
      (s.withAcf (entryEffect cmd s.cmu.arg s.acf).1).completed cmd.code (entryEffect cmd s.cmu.arg s.acf).2 := by
  have runs : entryTurn (s.busyWith cmd) =
      runEntry ⟨cmd, s.cmu.arg, s.cmu.paramH ++ s.cmu.paramL, 0⟩ (s.busyWith cmd) := by
    simp [entryTurn, State.busyWith, entry, free]
  rw [runs, runEntry]
  exact complete_busyWith (s := s.withAcf (entryEffect cmd s.cmu.arg s.acf).1)

theorem entryTurn_busyWith_of_job (job : s.acf.job ≠ none) : entryTurn (s.busyWith cmd) = s.busyWith cmd :=
  entryTurn_of_waiting job

theorem stopTheLine_busyWith : stopTheLine (s.busyWith cmd) = (stopTheLine s).busyWith cmd := rfl

theorem enterRising_busyWith : enterRising (s.busyWith cmd) = (enterRising s).busyWith cmd := rfl

theorem enterListen_busyWith : enterListen (s.busyWith cmd) = (enterListen s).busyWith cmd := by
  have same : (s.busyWith cmd).lrx = s.lrx := rfl
  unfold enterListen
  rw [same]
  split <;> rfl

end Owners

/-- What the owner of a command makes of it at its taking: `s` is the part before it (R6, R13, R52 to R57, R77 to
R82, R101, R103, R120, R122, R163, R165, R176, R185). -/
inductive Owned (s : State) (cmd : Cmd) : State → Prop
  | done (r : CmdResult) : Owned s cmd (s.completed cmd.code r)
  | startsRising (start : cmd = .startLine) (line : s.clc.line = .dormant) :
      Owned s cmd ((enterRising s).completed cmd.code .ok)
  | startsListen (start : cmd = .startLine) (line : s.clc.line = .dormant) (holds : s.cfg.idleHold ≠ 0) :
      Owned s cmd ((enterListen s).completed cmd.code .ok)
  | stops (stop : cmd = .stopLine) (line : s.clc.line ≠ .dormant) :
      Owned s cmd ((stopTheLine s).completed cmd.code .ok)
  | source (source : cmd.isSource = true) (free : s.srt.inHand = none) :
      Owned s cmd ((s.withSrt (sourceEffect cmd s.cmu.arg s.tkg.tickCount s.srt).1).completed cmd.code
        (sourceEffect cmd s.cmu.arg s.tkg.tickCount s.srt).2)
  | sourceWaits (source : cmd.isSource = true) (inHand : s.srt.inHand ≠ none) : Owned s cmd (s.busyWith cmd)
  | entry (entry : cmd.isEntry = true) (free : s.acf.job = none) :
      Owned s cmd ((s.withAcf (entryEffect cmd s.cmu.arg s.acf).1).completed cmd.code
        (entryEffect cmd s.cmu.arg s.acf).2)
  | entryWaits (entry : cmd.isEntry = true) (job : s.acf.job ≠ none) : Owned s cmd (s.busyWith cmd)
  | releases (release : cmd = .releaseHead) : Owned s cmd ((s.withRxq s.rxq.release).completed cmd.code .ok)
  | flushes (flush : cmd = .flushQueue) :
      Owned s cmd (((s.withRxq s.rxq.flush).withNwc s.nwc.flushed).completed cmd.code .ok)
  | snapshot (snapshot : cmd = .snapshotSlot) (slot : s.cmu.arg.toNat < Config.slotCount) :
      Owned s cmd ((s.withLvs (s.lvs.takeSnapshot s.cmu.arg.toNat)).busyWith .snapshotSlot)
  | watch (watch : cmd = .setSlotWatch) (n maxAge : Nat) :
      Owned s cmd ((s.withLvs (s.lvs.setWatch n maxAge)).completed cmd.code .ok)
  | sleeps (sleep : cmd = .hostSleep) : Owned s cmd ((s.withNwc s.nwc.sleep).completed cmd.code .ok)
  | wakes (wake : cmd = .hostAwake) : Owned s cmd ((s.withNwc s.nwc.awaken).completed cmd.code .ok)
  | counters (counters : cmd = .snapshotCounters) :
      Owned s cmd ((s.withCtb s.ctb.snapshot).completed cmd.code .ok)

section Owned
variable {s : State} {cmd : Cmd} {f : InFlight}

theorem owned_complete (r : CmdResult) : Owned s cmd (complete r (s.busyWith cmd)) := by
  rw [complete_busyWith]
  exact .done r

theorem owned_sourceTurn (source : cmd.isSource = true) : Owned s cmd (sourceTurn (s.busyWith cmd)) := by
  by_cases free : s.srt.inHand = none
  · rw [sourceTurn_busyWith source free]; exact .source source free
  · rw [sourceTurn_busyWith_of_inHand free]; exact .sourceWaits source free

theorem owned_entry (f : InFlight) (entry : cmd.isEntry = true) : Owned s cmd (ownEntry f (s.busyWith cmd)) := by
  unfold ownEntry
  split
  · by_cases free : s.acf.job = none
    · rw [entryTurn_busyWith entry free]; exact .entry entry free
    · rw [entryTurn_busyWith_of_job free]; exact .entryWaits entry free
  · exact owned_complete _

theorem owned_namedSource (f : InFlight) (source : cmd.isSource = true) :
    Owned s cmd (ownNamedSource f (s.busyWith cmd)) := by
  unfold ownNamedSource
  split
  · exact owned_sourceTurn source
  · exact owned_complete _

theorem owned_startLine (f : InFlight) : Owned s .startLine (ownStartLine f (s.busyWith .startLine)) := by
  unfold ownStartLine
  split
  · exact owned_complete _
  · next dormant =>
    have line : s.clc.line = .dormant := Classical.not_not.mp dormant
    split
    · exact owned_complete _
    · split
      · rw [enterRising_busyWith, complete_busyWith]; exact .startsRising rfl line
      · next holds => rw [enterListen_busyWith, complete_busyWith]; exact .startsListen rfl line holds

/-- What each owner makes of a command taken. -/
theorem owned_owner (cmd : Cmd) (ne : cmd ≠ .softReset) :
    Owned s cmd (cmd.owner (s.cmu.capture cmd) (s.busyWith cmd)) := by
  cases cmd with
  | softReset => exact absurd rfl ne
  | nop => exact owned_complete _
  | startLine => exact owned_startLine (s.cmu.capture .startLine)
  | stopLine =>
    simp only [Cmd.owner, ownStopLine]
    split
    · exact owned_complete _
    · next line => rw [stopTheLine_busyWith, complete_busyWith]; exact .stops rfl line
  | releaseHead =>
    simp only [Cmd.owner, ownReleaseHead]
    split
    · rw [busyWith_rxq, complete_busyWith_withRxq]; exact .releases rfl
    · exact owned_complete _
  | flushQueue => exact .flushes rfl
  | snapshotSlot =>
    simp only [Cmd.owner, ownSnapshotSlot]
    split
    · next slot => exact .snapshot rfl slot
    · exact owned_complete _
  | setSlotWatch =>
    simp only [Cmd.owner, ownSetSlotWatch]
    split
    · exact .watch rfl _ _
    · exact owned_complete _
  | commitEntry | clearEntry | readEntry => exact owned_entry _ rfl
  | pinSource | unpinSource | forgetSource => exact owned_namedSource _ rfl
  | forgetUnpinned | readSource => exact owned_sourceTurn rfl
  | snapshotCounters => exact .counters rfl
  | hostSleep =>
    simp only [Cmd.owner, ownHostSleep]
    split
    · exact owned_complete _
    · exact .sleeps rfl
  | hostAwake =>
    simp only [Cmd.owner, ownHostAwake]
    split
    · exact owned_complete _
    · exact .wakes rfl

end Owned

/-- A write to CMD takes the command its code names, at its owner. -/
theorem writeCmd_of_code {code : Byte} {cmd : Cmd} (known : Cmd.ofCode code = some cmd)
    (ne : cmd ≠ .softReset) (s : State) : writeCmd code s = takeCommand cmd cmd.owner s := by
  rw [writeCmd, known]
  cases cmd with
  | softReset => exact absurd rfl ne
  | _ => rfl

theorem writeCmd_of_softReset {code : Byte} (known : Cmd.ofCode code = some .softReset) (s : State) :
    writeCmd code s = takeSoftReset s := by
  rw [writeCmd, known]

theorem takeUnknown_of_idle {s : State} (code : Byte) (idle : s.cmu.inFlight = none) :
    takeUnknown code s = s.completed code .arg := by
  obtain ⟨lrx, inReset, cfg, tkg, clc, lrv, srt, acf, rxq, lvs, rsp, nwc, cmu, ctb, spi, pending⟩ := s
  obtain ⟨arg, paramL, paramH, inFlight, last, result, aborted, rejected, configLocked⟩ := cmu
  obtain rfl : inFlight = none := idle
  rfl

/-! #### What a data byte written does -/

/-- What the write of a data byte does, ahead of the port's own move. -/
inductive Written (s : State) : State → Prop
  | nothing : Written s s
  | taken {cmd : Cmd} {t : State} (idle : s.cmu.inFlight = none) (owned : Owned s cmd t) : Written s t
  | softReset : Written s (takeSoftReset s)
  | unknown (code : Byte) (idle : s.cmu.inFlight = none) : Written s (s.completed code .arg)
  | commandUnit (c : Cmu) (same : c.inFlight = s.cmu.inFlight) : Written s (s.withCmu c)
  | page (p : BitVec 2) : Written s (s.withSpi { s.spi with page := p })
  | pendingClear (high : Bool) (v : Byte) : Written s (clearPending high v s)
  | enables (irqEn wakeEn : FlagSet) : Written s (s.withNwc { s.nwc with irqEn := irqEn, wakeEn := wakeEn })
  | threshold (v : Byte) : Written s (s.withNwc { s.nwc with rxThreshold := heldThreshold v })
  | holdoff (v : Byte) : Written s (s.withNwc { s.nwc with rxHoldoff := v.toNat })
  | config (reg : LockedReg) (v : Byte) (dormant : s.clc.line = .dormant) :
      Written s (s.withCfg (s.cfg.write reg v))
  | watermark (v : Byte) : Written s (writeWatermark v s)
  | hash (i : Nat) (v : Byte) : Written s (s.withAcf { s.acf with hash := s.acf.hash.set i v })
  | staging (g : Staging) : Written s (s.withAcf { s.acf with staging := g })

theorem written_takeCommand (cmd : Cmd) (ne : cmd ≠ .softReset) (s : State) :
    Written s (takeCommand cmd cmd.owner s) := by
  cases inFlight : s.cmu.inFlight with
  | none => rw [takeCommand_of_idle _ inFlight]; exact .taken inFlight (owned_owner cmd ne)
  | some f => rw [takeCommand_of_busy cmd _ inFlight]; exact .commandUnit _ rfl

theorem written_takeUnknown (code : Byte) (s : State) : Written s (takeUnknown code s) := by
  cases inFlight : s.cmu.inFlight with
  | none => rw [takeUnknown_of_idle code inFlight]; exact .unknown code inFlight
  | some f => rw [takeUnknown_of_busy code inFlight]; exact .commandUnit _ rfl

theorem written_writeCmd (code : Byte) (s : State) : Written s (writeCmd code s) := by
  cases known : Cmd.ofCode code with
  | none => rw [writeCmd, known]; exact written_takeUnknown code s
  | some cmd =>
    by_cases soft : cmd = .softReset
    · rw [writeCmd_of_softReset (soft ▸ known)]; exact .softReset
    · rw [writeCmd_of_code known soft]; exact written_takeCommand cmd soft s

theorem written_writeLocked (reg : LockedReg) (v : Byte) (s : State) : Written s (writeLocked reg v s) := by
  by_cases dormant : s.clc.line = .dormant
  · rw [writeLocked_of_dormant dormant]; exact .config reg v dormant
  · rw [writeLocked_of_not_dormant dormant]; exact .commandUnit _ rfl

theorem written_writeCommon (addr : Nat) (v : Byte) (s : State) : Written s (writeCommon addr v s) := by
  unfold writeCommon
  split
  case h_1 => exact .page _
  case h_2 | h_3 | h_4 | h_6 => exact .commandUnit _ rfl
  case h_5 => exact written_writeCmd v s
  case h_7 | h_8 => exact .pendingClear _ v
  case h_9 | h_10 | h_11 | h_12 => exact .enables _ _
  case h_13 => exact .threshold v
  case h_14 => exact .holdoff v
  case h_22 => exact .watermark v
  case h_23 => exact .nothing
  all_goals exact written_writeLocked _ v s

theorem written_writePaged (addr : Nat) (v : Byte) (s : State) : Written s (writePaged addr v s) := by
  unfold writePaged
  split
  · exact .hash _ v
  · split
    · exact .staging _
    · exact .nothing

theorem written_writeReg (addr : RegAddr) (v : Byte) (s : State) : Written s (writeReg addr v s) := by
  unfold writeReg
  split
  · exact written_writeCommon _ v s
  · exact written_writePaged _ v s

/-! #### The end of a character -/

/-- What the end of a character leaves, ahead of the idle hold's part: `e` is the part with the character over
(R22 to R26, R30, R32, R142 to R144). -/
inductive Ended (e : State) : State → Prop
  | ignored (no_frame : e.lrv.rx ≠ .header ∧ e.lrv.rx ≠ .body) : Ended e e
  | delimiter (hunt : e.lrv.rx = .hunt) (framed : e.lrv.mode = .framed) (quiet : e.rsp.state.code ≠ 2) :
      Ended e (enterHeader e)
  | noDelimiter (hunt : e.lrv.rx = .hunt) (framed : e.lrv.mode = .framed) (quiet : e.rsp.state.code ≠ 2) :
      Ended e (enterSkip e)
  | headerByte (header : e.lrv.rx = .header) (buf : FrameBuffer) :
      Ended e (e.withLrv { e.lrv with buffer := buf })
  | badHeader (header : e.lrv.rx = .header) (buf : FrameBuffer) (k : Counter) :
      Ended e (enterSkip (count k (e.withLrv { e.lrv with buffer := buf })))
  | goodHeader (header : e.lrv.rx = .header) (buf : FrameBuffer) (h : Header) :
      Ended e ((handOn h (e.withLrv { e.lrv with buffer := buf })).withLrv { e.lrv with buffer := buf, rx := .body })
  | framingError (frame : e.lrv.rx = .header ∨ e.lrv.rx = .body) : Ended e (loseToSkip .framingErrors e)
  | framingErrorLate (body : e.lrv.rx = .body) : Ended e (loseToSkip .framingErrors (finishClassification e))
  | bodyByte (body : e.lrv.rx = .body) (buf : FrameBuffer) :
      Ended e ((finishClassification e).withLrv { e.lrv with buffer := buf })
  | commit (body : e.lrv.rx = .body) (buf : FrameBuffer) :
      Ended e (commitFrame ((finishClassification e).withLrv { e.lrv with buffer := buf }))
  | checkError (body : e.lrv.rx = .body) (buf : FrameBuffer) :
      Ended e (enterHunt (loseFrame (count .checkErrors
        ((finishClassification e).withLrv { e.lrv with buffer := buf }))))
  | echoed (sending : e.rsp.state.code = 2) (chars : List Byte) (done : Nat) :
      Ended e (e.withRsp { e.rsp with state := .sending chars done })
  | sent (sending : e.rsp.state.code = 2) : Ended e (count .responsesSent (e.withRsp { e.rsp with state := .idle }))
  | mismatch (sending : e.rsp.state.code = 2) : Ended e (readbackMismatch e)

section Ended
variable {e : State}

theorem ended_huntChar (b : Byte) (stop : Bool) (hunt : e.lrv.rx = .hunt) (framed : e.lrv.mode = .framed)
    (quiet : e.rsp.state.code ≠ 2) : Ended e (huntChar b stop e) := by
  unfold huntChar
  split
  · exact .ignored (by simp [hunt])
  · split
    · exact .delimiter hunt framed quiet
    · exact .noDelimiter hunt framed quiet

theorem handOn_lrv (h : Header) (s : State) : (handOn h s).lrv = s.lrv := by simp

theorem ended_headerChar (b : Byte) (header : e.lrv.rx = .header) : Ended e (headerChar b e) := by
  unfold headerChar
  dsimp only
  split
  · unfold headerComplete
    dsimp only
    split
    · exact .badHeader header _ _
    · split
      · exact .badHeader header _ _
      · rw [handOn_lrv]
        exact .goodHeader header _ _
  · exact .headerByte header _

theorem ended_bodyChar (b : Byte) (body : e.lrv.rx = .body) : Ended e (bodyChar b (finishClassification e)) := by
  have lrv : (finishClassification e).lrv = e.lrv := by simp
  unfold bodyChar
  dsimp only
  rw [lrv]
  split
  · exact .bodyByte body _
  · split
    · unfold checkComplete
      split
      · exact .commit body _
      · exact .checkError body _
    · exact .bodyByte body _

theorem ended_receiveChar (b : Byte) (stop : Bool) (quiet : e.rsp.state.code ≠ 2) :
    Ended e (receiveChar b stop e) := by
  unfold receiveChar
  cases rx : e.lrv.rx with
  | hunt =>
    dsimp only
    split
    · next framed => exact ended_huntChar b stop rx framed quiet
    · exact .ignored (by simp [rx])
  | header =>
    cases stop with
    | true => exact ended_headerChar b rx
    | false => exact .framingError (.inl rx)
  | body =>
    cases stop with
    | true => exact ended_bodyChar b rx
    | false => exact .framingErrorLate rx
  | off | skip | stuck => exact .ignored (by simp [rx])

theorem ended_readbackChar (b : Byte) (stop : Bool) (chars : List Byte) (done : Nat)
    (sending : e.rsp.state.code = 2) : Ended e (readbackChar b stop chars done e) := by
  unfold readbackChar
  split
  · split
    · exact .sent sending
    · exact .echoed sending _ _
  · exact .mismatch sending

end Ended

/-! #### The events -/

/-- The kinds of command that a later argument tells apart by what they alone do. -/
inductive Cause where
  | reset
  | settle
  | write
  | other

/-- Power-on and pin reset; the settle completion; the data bytes written; the rest. -/
def causeOf (c : Instr) : Cause :=
  if c.writeAddr.isSome then .write
  else match c with
    | .powerOnReset | .pinReset => .reset
    | .settleCompletion => .settle
    | _ => .other

theorem causeOf_of_writeAddr {c : Instr} (at_some : c.writeAddr ≠ none) : causeOf c = .write :=
  if_pos (Option.isSome_iff_ne_none.mpr at_some)

/-- What a command, or a step on the empty queue, does to the part, and where it can do it. -/
inductive Happens (s : State) : Cause → State → Prop
  | nothing {k : Cause} : Happens s k s
  | reset : Happens s .reset (resetBlocks s)
  | resetEnd : Happens s .other (s.withInReset false)
  | period (n : Nat) : Happens s .other (s.withTkg { s.tkg with prescale := n })
  | tick : Happens s .other (doTick s)
  | fallsUnheard (high : s.lrx = true) (line : s.clc.line = .dormant ∨ s.clc.line = .rising) :
      Happens s .other (s.withLrx false)
  | wakes (high : s.lrx = true) (line : s.clc.line = .listen) : Happens s .other (enterRising (s.withLrx false))
  | fallsInStuck (high : s.lrx = true) (line : s.clc.line = .active) (stuck : s.lrv.rx = .stuck) :
      Happens s .other ((s.withLrx false).withLrv { s.lrv with high := none, idle := none })
  | fallsInCharacter (high : s.lrx = true) (line : s.clc.line = .active) (not_stuck : s.lrv.rx ≠ .stuck)
      (busy : s.lrv.charBusy = true) (framed : s.lrv.mode = .framed) :
      Happens s .other ((s.withLrx false).withLrv { s.lrv with low := some 0 })
  | characterStart (high : s.lrx = true) (line : s.clc.line = .active) (not_stuck : s.lrv.rx ≠ .stuck)
      (begins : s.lrv.charBusy = true → s.lrv.mode ≠ .framed) : Happens s .other (characterStart (s.withLrx false))
  | risesUnheard (low : s.lrx = false) (line : s.clc.line ≠ .active) : Happens s .other (s.withLrx true)
  | rises (low : s.lrx = false) (line : s.clc.line = .active) :
      Happens s .other ((s.withLrx true).withLrv
        { s.lrv with
          low := none
          idle := if s.lrv.charBusy then none else some 0
          high := if s.lrv.rx = .stuck then some 0 else none })
  | settled (line : s.clc.line = .rising) :
      Happens s .settle (syncIdle ((s.withClc ⟨.active, none, none⟩).withLrv (.started s.lrx)))
  | preamble (hunt : s.lrv.rx = .hunt) (deciding : s.lrv.mode = .deciding) (level : Bool) :
      Happens s .other (syncIdle ((noteLevel level s).withLrv { (noteLevel level s).lrv with mode := .watching }))
  | delimiter (hunt : s.lrv.rx = .hunt) (unframed : s.lrv.mode ≠ .framed) (level : Bool) :
      Happens s .other (syncIdle (enterHeader (endCharacter level s)))
  | missedRising (hunt : s.lrv.rx = .hunt) (unframed : s.lrv.mode ≠ .framed) (level : Bool) :
      Happens s .other (syncIdle (count .missedRising (enterSkip (noteLevel level s))))
  | watchEnds (hunt : s.lrv.rx = .hunt) (idle : s.lrv.idle.isSome = true) :
      Happens s .other (s.withLrv { s.lrv with mode := .framed, idle := some Config.frameGap })
  | character (busy : s.lrv.charBusy = true) (level : Bool) {u : State} (ended : Ended (endCharacter level s) u) :
      Happens s .other (syncIdle u)
  | truncated (frame : s.lrv.rx = .header ∨ s.lrv.rx = .body) (idle : s.lrv.idle.isSome = true) :
      Happens s .other (syncIdle (loseToSkip .truncated (s.withLrv { s.lrv with idle := some Config.frameGap })))
  | skipEnds (skip : s.lrv.rx = .skip) (idle : s.lrv.idle.isSome = true) :
      Happens s .other (syncIdle (enterHunt (s.withLrv { s.lrv with idle := s.lrv.idle.map (· + Config.frameGap) })))
  | stuckInFrame (line : s.clc.line = .active) (frame : s.lrv.rx = .header ∨ s.lrv.rx = .body)
      (low : s.lrv.low.isSome = true) (free : s.lrv.charBusy = false) :
      Happens s .other (syncIdle (raise .lineFault ((loseFrame s).withLrv { (loseFrame s).lrv with
        rx := .stuck, mode := .framed, low := none, high := none, skipIdle := none })))
  | stuck (line : s.clc.line = .active) (no_frame : s.lrv.rx ≠ .header ∧ s.lrv.rx ≠ .body)
      (low : s.lrv.low.isSome = true) (free : s.lrv.charBusy = false) :
      Happens s .other (syncIdle (raise .lineFault (s.withLrv { s.lrv with
        rx := .stuck, mode := .framed, low := none, high := none, skipIdle := none })))
  | stuckEnds (stuck : s.lrv.rx = .stuck) (high : s.lrv.high.isSome = true) :
      Happens s .other (syncIdle (raise .lineRecover (enterHunt
        (s.withLrv { s.lrv with idle := some Config.stuckRecovery }))))
  | waitEnds (waiting : s.rsp.state.code = 1) (hunt : s.lrv.rx = .hunt) (idle : s.lrv.idle.isSome = true)
      (chars : List Byte) :
      Happens s .other ((s.withRsp { s.rsp with state := .sending chars 0 }).withLrv
        { s.lrv with idle := some Config.responseDelay })
  | echoMissing (sending : s.rsp.state.code = 2) (free : s.lrv.charBusy = false) :
      Happens s .other (syncIdle (readbackMismatch s))
  | classification : Happens s .other (finishClassification s)
  | copy (snap : s.lvs.snap.isSome = true) : Happens s .other (copyDone s)
  | clear {f : InFlight} (busy : s.cmu.inFlight = some f) (soft : f.cmd = .softReset) :
      Happens s .other (complete .ok (s.withCmu { s.cmu with aborted := f.abortCode }))
  | written {t : State} (writes : s.WritesAt s.spi.ptr) (w : Written s t) :
      Happens s .write (t.wrote (ptrAfter s s.spi.ptr))
  | read {l : Load} (reads : s.spi.phase = .read l) : Happens s .other (completeRead s)
  | select : Happens s .other (selectPort s)
  | deselect : Happens s .other (deselectPort s)
  | commandByte (running : s.inReset = false) (b : Byte) : Happens s .other (commandLoaded b s)
  | arrivals (late : LateReports) : Happens s .other (noteArrivals late s)

/-! #### The line's events -/

section LineEvents
variable (s : State)

theorem happens_fallingEdge : Happens s .other (fallingEdge s) := by
  unfold fallingEdge
  split
  · next high =>
    cases line : s.clc.line with
    | dormant | rising => simp only [State.withLrx_clc, line]; exact .fallsUnheard high (by simp [line])
    | listen => simp only [State.withLrx_clc, line]; exact .wakes high line
    | active =>
      simp only [State.withLrx_clc, line]
      unfold fallingEdgeActive
      split
      · next stuck => exact .fallsInStuck high line stuck
      · next not_stuck =>
        split
        · next inside => exact .fallsInCharacter high line not_stuck inside.1 inside.2
        · next outside => exact .characterStart high line not_stuck fun busy framed => outside ⟨busy, framed⟩
  · exact .nothing

theorem happens_risingEdge : Happens s .other (risingEdge s) := by
  unfold risingEdge
  split
  · exact .nothing
  · next low =>
    have low : s.lrx = false := by simpa using low
    dsimp only
    split
    · next line => exact .rises low line
    · next line => exact .risesUnheard low line

theorem happens_settled : Happens s .settle (settled s) := by
  unfold Machine.settled
  split
  · next line => exact .settled line
  · exact .nothing

theorem happens_firstCharacter (samples : TenBits) (level : Bool) : Happens s .other (firstCharacter samples level s) := by
  unfold firstCharacter
  split
  · next open_ =>
    obtain ⟨hunt, deciding⟩ := open_
    have unframed : s.lrv.mode ≠ .framed := by simp [deciding]
    split
    · exact .preamble hunt deciding level
    · split
      · exact .delimiter hunt unframed level
      · exact .missedRising hunt unframed level
  · exact .nothing

theorem happens_delimiterFound (level : Bool) : Happens s .other (delimiterFound level s) := by
  unfold delimiterFound
  split
  · next watching => exact .delimiter watching.1 (by simp [watching.2]) level
  · exact .nothing

theorem happens_watchEnds : Happens s .other (watchEnds s) := by
  unfold watchEnds
  split
  · next watching => exact .watchEnds watching.1 watching.2.2
  · exact .nothing

theorem happens_characterEnd (b : Byte) (stop level : Bool) : Happens s .other (characterEnd b stop level s) := by
  unfold characterEnd
  split
  · next busy =>
    refine .character busy level ?_
    have same : (endCharacter level s).rsp = s.rsp := by simp
    rw [same]
    cases state : s.rsp.state with
    | sending chars done => exact ended_readbackChar b stop chars done (by rw [same, state]; rfl)
    | idle | waiting => exact ended_receiveChar b stop (by simp [state, RspState.code])
  · split
    · exact happens_risingEdge s
    · exact .nothing

theorem frameInFlight_iff : s.frameInFlight = true ↔ s.lrv.rx = .header ∨ s.lrv.rx = .body := by
  simp [State.frameInFlight]

theorem happens_truncated : Happens s .other (truncated s) := by
  unfold truncated
  split
  · next ends => exact .truncated ((frameInFlight_iff s).1 ends.1) ends.2
  · exact .nothing

theorem happens_skipEnds : Happens s .other (skipEnds s) := by
  unfold skipEnds
  split
  · next ends => exact .skipEnds ends.1 ends.2.2
  · exact .nothing

theorem happens_stuck : Happens s .other (stuck s) := by
  unfold stuck
  split
  · next enters =>
    obtain ⟨line, -, low, free⟩ := enters
    dsimp only
    split
    · next frame => exact .stuckInFrame line ((frameInFlight_iff s).1 frame) low free
    · next frame => exact .stuck line (by simpa [frameInFlight_iff] using frame) low free
  · exact .nothing

theorem happens_stuckEnds : Happens s .other (stuckEnds s) := by
  unfold stuckEnds
  split
  · next ends => exact .stuckEnds ends.1 ends.2
  · exact .nothing

theorem happens_waitEnds : Happens s .other (waitEnds s) := by
  unfold waitEnds
  cases state : s.rsp.state with
  | waiting chars =>
    dsimp only
    split
    · next ends => exact .waitEnds (by rw [state]; rfl) ends.1 ends.2 chars
    · exact .nothing
  | idle | sending => exact .nothing

theorem happens_echoMissing : Happens s .other (echoMissing s) := by
  unfold echoMissing
  cases state : s.rsp.state with
  | sending chars done =>
    dsimp only
    split
    · exact .nothing
    · next free => exact .echoMissing (by rw [state]; rfl) (by simpa using free)
  | idle | waiting => exact .nothing

theorem happens_copyDone : Happens s .other (copyDone s) := by
  by_cases snap : s.lvs.snap.isSome = true
  · exact .copy snap
  · simp only [copyDone, if_neg snap]
    exact .nothing

theorem happens_clearDone : Happens s .other (clearDone s) := by
  unfold clearDone
  split
  · exact .nothing
  · next f busy =>
    split
    · next soft => exact .clear busy soft
    · exact .nothing

theorem happens_completeRead : Happens s .other (completeRead s) := by
  by_cases reads : ∃ l, s.spi.phase = .read l
  · obtain ⟨l, reads⟩ := reads
    exact .read reads
  · rw [completeRead_of_not_read s (by simpa using reads)]
    exact .nothing

end LineEvents

theorem happens_tickWhere (due : Bool) (s : State) : Happens s .other (tickWhere due s) := by
  unfold tickWhere
  split
  · exact .tick
  · exact .nothing

theorem happens_endingEvent (e : FrameEnding) (s : State) : Happens s .other (endingEvent e s) := by
  cases e with
  | characterEnd b stop level => exact happens_characterEnd s b stop level
  | truncation => exact happens_truncated s
  | entryToStuck => exact happens_stuck s

theorem happens_hostWrite {addr : RegAddr} {effect : State → State} {s : State} (w : Written s (effect s)) :
    Happens s .write (hostWrite addr effect s) := by
  by_cases writes : s.WritesAt addr
  · obtain rfl : s.spi.ptr = addr := writes.2.2
    rw [hostWrite_of_WritesAt s effect writes]
    exact .written writes w
  · rw [hostWrite_of_not_WritesAt s effect writes]
    exact .nothing

theorem happens_hostRead (addr : RegAddr) (s : State) : Happens s .other (hostRead addr s) := by
  unfold hostRead
  split
  · exact happens_completeRead s
  · exact .nothing

theorem happens_portEvent (event : PortEvent) (s : State) : Happens s .other (portEvent event s) := by
  cases event with
  | select => exact .select
  | deselect => exact .deselect
  | command b =>
    simp only [portEvent]
    split
    · exact .nothing
    · next running => exact .commandByte (by simpa using running) b
  | dataRead =>
    simp only [portEvent]
    split
    · exact .nothing
    · exact happens_completeRead s
  | arrivals late =>
    simp only [portEvent]
    split
    · exact .nothing
    · exact .arrivals late

/-- The value of a data byte that a row of its own writes, and that the row is its register's write. -/
theorem exec_of_writeAddr {c : Instr} {addr : RegAddr} (at_addr : c.writeAddr = some addr) :
    ∃ v, ∀ s, exec c s = .next (hostWrite addr (writeReg addr v) s) := by
  cases c with
  | startLine => cases at_addr; exact ⟨0x10, fun _ => rfl⟩
  | stopLine => cases at_addr; exact ⟨0x11, fun _ => rfl⟩
  | pinSource => cases at_addr; exact ⟨0x50, fun _ => rfl⟩
  | unpinSource => cases at_addr; exact ⟨0x51, fun _ => rfl⟩
  | forgetSource => cases at_addr; exact ⟨0x52, fun _ => rfl⟩
  | forgetUnpinned => cases at_addr; exact ⟨0x53, fun _ => rfl⟩
  | readSource => cases at_addr; exact ⟨0x54, fun _ => rfl⟩
  | commitEntry => cases at_addr; exact ⟨0x40, fun _ => rfl⟩
  | clearEntry => cases at_addr; exact ⟨0x41, fun _ => rfl⟩
  | readEntry => cases at_addr; exact ⟨0x42, fun _ => rfl⟩
  | releaseHead => cases at_addr; exact ⟨0x20, fun _ => rfl⟩
  | flushQueue => cases at_addr; exact ⟨0x21, fun _ => rfl⟩
  | snapshotSlot => cases at_addr; exact ⟨0x30, fun _ => rfl⟩
  | setSlotWatch => cases at_addr; exact ⟨0x31, fun _ => rfl⟩
  | hostSleep => cases at_addr; exact ⟨0x70, fun _ => rfl⟩
  | hostAwake => cases at_addr; exact ⟨0x71, fun _ => rfl⟩
  | snapshotCounters => cases at_addr; exact ⟨0x60, fun _ => rfl⟩
  | softReset => cases at_addr; exact ⟨0x96, fun _ => rfl⟩
  | nop => cases at_addr; exact ⟨0x01, fun _ => rfl⟩
  | unknownCommand code => cases at_addr; exact ⟨code, fun _ => rfl⟩
  | cmdFlagsClear v => cases at_addr; exact ⟨v, fun _ => rfl⟩
  | watermarkWrite v => cases at_addr; exact ⟨v, fun _ => rfl⟩
  | registerWrite a v => cases at_addr; exact ⟨v, fun _ => rfl⟩
  | pendingClear high v => cases high <;> cases at_addr <;> exact ⟨v, fun _ => rfl⟩
  | irqEnWrite high v => cases high <;> cases at_addr <;> exact ⟨v, fun _ => rfl⟩
  | lockedRegisterWrite reg v => cases reg <;> cases at_addr <;> exact ⟨v, fun _ => rfl⟩
  | _ => cases at_addr

theorem exec_of_readAddr {c : Instr} {addr : RegAddr} (at_addr : c.readAddr = some addr) (s : State) :
    exec c s = .next (hostRead addr s) := by
  cases c <;> cases at_addr <;> rfl

/-- A data byte written has a row's address. -/
theorem happens_of_writeAddr {c : Instr} {s t : State} (next : exec c s = .next t) (at_some : c.writeAddr ≠ none) :
    Happens s .write t := by
  obtain ⟨addr, at_addr⟩ := Option.ne_none_iff_exists'.mp at_some
  obtain ⟨v, exec_eq⟩ := exec_of_writeAddr at_addr
  cases (exec_eq s).symm.trans next
  exact happens_hostWrite (written_writeReg addr v s)

theorem exec_happens {c : Instr} {s t : State} (next : exec c s = .next t) : Happens s (causeOf c) t := by
  by_cases at_some : c.writeAddr ≠ none
  · rw [causeOf_of_writeAddr at_some]
    exact happens_of_writeAddr next at_some
  cases c with
  | powerOnReset | pinReset => cases next; exact .reset
  | resetEnd => cases next; exact .resetEnd
  | tick =>
    cases next
    split
    · exact .nothing
    · exact .tick
  | staleWatchExpiry | holdOffExpiry | idleHoldExpiry => cases next; exact happens_tickWhere _ s
  | lrxFallingEdge | characterStart | stuckFallingEdge => cases next; exact happens_fallingEdge s
  | lrxRisingEdge => cases next; exact happens_risingEdge s
  | settleCompletion => cases next; exact happens_settled s
  | firstCharacterDecision samples level => cases next; exact happens_firstCharacter s samples level
  | delimiterPattern level => cases next; exact happens_delimiterFound s level
  | huntWatchIdle => cases next; exact happens_watchEnds s
  | characterEnd b stop level => cases next; exact happens_characterEnd s b stop level
  | truncation => cases next; exact happens_truncated s
  | endOfSkip => cases next; exact happens_skipEnds s
  | entryToStuck => cases next; exact happens_stuck s
  | endOfStuck => cases next; exact happens_stuckEnds s
  | responseWaitEnd => cases next; exact happens_waitEnds s
  | missingEcho => cases next; exact happens_echoMissing s
  | classificationCompletion => cases next; exact .classification
  | copyCompletion => cases next; exact happens_copyDone s
  | clearCompletion => cases next; exact happens_clearDone s
  | deferredSourceCommand ending =>
    cases next
    split
    · exact happens_endingEvent ending s
    · exact .nothing
  | deferredEntryCommand =>
    cases next
    split
    · exact .classification
    · exact .nothing
  | tickCountLRead | qusedLRead | freshSetLRead | mitCountLRead | qdataRead | sdataRead =>
    cases next; exact happens_hostRead _ s
  | commandByte event => cases next; exact happens_portEvent event s
  | _ => exact absurd nofun at_some

theorem happens_lclkPeriod (s : State) : Happens s .other (lclkPeriod s) := by
  unfold lclkPeriod
  split
  · exact .nothing
  · split
    · exact .tick
    · exact .period _

/-- A step is an event on the part with the queue it leaves. -/
theorem step_happens {s t : State} (next : step s = .next t) : ∃ rest k, Happens (s.withPending rest) k t := by
  unfold step at next
  split at next
  · next c rest _ => exact ⟨rest, _, exec_happens next⟩
  · cases next
    exact ⟨s.pending, _, happens_lclkPeriod s⟩

/-- A statement about a state that does not look at the queue is kept by every step if every event keeps it. -/
theorem step_keeps {P : State → Prop} (queue : ∀ s rest, P s → P (s.withPending rest))
    (events : ∀ {s k t}, P s → Happens s k t → P t) {s t : State} (holds : P s) (next : step s = .next t) : P t := by
  obtain ⟨rest, _, happens⟩ := step_happens next
  exact events (queue s rest holds) happens

end Sys2Proof.Machine
end

section
/-! ### The receive queue along a step, and the record memory (R87, R91) -/

namespace Sys2Proof.Machine

/-! #### What a classification leaves in flight, and at the queue -/

section Fields
variable {s : State}

theorem Acf.noteRewritten_job (n : Nat) (a : Acf) : (a.noteRewritten n).job = a.job := by
  unfold Acf.noteRewritten
  split
  · rfl
  · split <;> rfl

theorem commitEffect_job (n : Nat) (a : Acf) : (commitEffect n a).1.job = a.job := by
  unfold commitEffect
  split
  · exact Acf.noteRewritten_job n _
  · rfl

theorem clearEffect_job (n : Nat) (a : Acf) : (clearEffect n a).1.job = a.job := by
  unfold clearEffect
  split
  · rfl
  · exact Acf.noteRewritten_job n _

theorem readEffect_job (n : Nat) (a : Acf) : (readEffect n a).1.job = a.job := by
  unfold readEffect
  split <;> rfl

/-- No entry command touches a classification in flight. -/
@[simp] theorem entryEffect_job (c : Cmd) (arg : Byte) (a : Acf) : (entryEffect c arg a).1.job = a.job := by
  cases c with
  | commitEntry => exact commitEffect_job _ a
  | clearEntry => exact clearEffect_job _ a
  | readEntry => exact readEffect_job _ a
  | _ => rfl

/-- A property of the filter that no entry command changes is that of the filter its turn starts with. -/
theorem entryRun_keeps {α : Sort*} (field : Acf → α)
    (keeps : ∀ c arg a, field (entryEffect c arg a).1 = field a) (left : Acf) :
    field (s.entryRun left).1 = field left := by
  unfold State.entryRun
  split
  · rfl
  · split
    · exact keeps _ _ _
    · rfl

@[simp] theorem finishClassification_job : (finishClassification s).acf.job = none := by
  cases job : s.acf.job with
  | none => rw [finishClassification_of_none job, job]
  | some j =>
    rw [finishClassification_eq job]
    exact entryRun_keeps (·.job) entryEffect_job _

@[simp] theorem finishClassification_idem :
    finishClassification (finishClassification s) = finishClassification s :=
  finishClassification_of_none finishClassification_job

/-- The queue once the classification in flight, if any, has completed (R68). -/
def State.classifiedRxq (s : State) : Rxq :=
  match s.acf.job with
  | none => s.rxq
  | some j => s.rxq.classified j.hdr (classify s.cfg s.acf.hash j)

@[simp] theorem finishClassification_rxq : (finishClassification s).rxq = s.classifiedRxq := by
  cases job : s.acf.job with
  | none => simp [finishClassification_of_none job, State.classifiedRxq, job]
  | some j => simp [finishClassification_eq job, State.classifiedRxq, job]

theorem classifiedRxq_congr {t : State} (cfg : t.cfg = s.cfg) (acf : t.acf = s.acf) (rxq : t.rxq = s.rxq) :
    t.classifiedRxq = s.classifiedRxq := by
  simp only [State.classifiedRxq, cfg, acf, rxq]

end Fields

/-! #### What a step can do to the queue -/

/-- The queues that an event can leave of a queue, given what the classification in flight would make of it. -/
inductive RxqAfter (q classified : Rxq) : Cause → Rxq → Prop
  | same {k : Cause} : RxqAfter q classified k q
  | classified : RxqAfter q classified .other classified
  | lost : RxqAfter q classified .other classified.abandon
  | committed (stamp : Stamp) (payload : List Byte) :
      RxqAfter q classified .other (classified.commit stamp payload)
  | stopped : RxqAfter q classified .write q.abandon
  | released : RxqAfter q classified .write q.release
  | flushed : RxqAfter q classified .write q.flush
  | softReset : RxqAfter q classified .write q.abandon.softReset
  | reset : RxqAfter q classified .reset State.reset.rxq
  | watermark (v : Byte) : RxqAfter q classified .write (q.writeWatermark v)
  | captured (used free count : Nat) :
      RxqAfter q classified .other { q with capUsed := used, capFree := free, capCount := count }
  | moved : RxqAfter q classified .other { q with readPos := advancePos q.readPos }

theorem RxqAfter.of_eq {q classified q' : Rxq} {k : Cause} (same : q' = q) : RxqAfter q classified k q' :=
  same ▸ .same

section Queue
variable {s e u t : State} {cmd : Cmd}

@[simp] theorem stopTheLine_rxq : (stopTheLine s).rxq = s.rxq.abandon := rfl

@[simp] theorem takeSoftReset_rxq : (takeSoftReset s).rxq = s.rxq.abandon.softReset := rfl

@[simp] theorem loseToSkip_rxq (k : Counter) : (loseToSkip k s).rxq = s.classifiedRxq.abandon := by
  have kept : (count k s).classifiedRxq = s.classifiedRxq := classifiedRxq_congr (by simp) (by simp) (by simp)
  simp [loseToSkip, kept]

theorem classifiedRxq_of_no_job (job : u.acf.job = none) : u.classifiedRxq = u.rxq := by
  simp only [State.classifiedRxq, job]

theorem ended_rxq (ended : Ended e u) : RxqAfter e.rxq e.classifiedRxq .other u.rxq := by
  cases ended with
  | framingError => rw [loseToSkip_rxq]; exact .lost
  | framingErrorLate =>
    rw [loseToSkip_rxq, classifiedRxq_of_no_job finishClassification_job, finishClassification_rxq]
    exact .lost
  | bodyByte => rw [State.withLrv_rxq, finishClassification_rxq]; exact .classified
  | commit => rw [commitFrame_rxq, State.withLrv_rxq, finishClassification_rxq]; exact .committed _ _
  | checkError _ buf =>
    have no_job : (count .checkErrors
        ((finishClassification e).withLrv { e.lrv with buffer := buf })).acf.job = none := by simp
    have same : (enterHunt (loseFrame (count .checkErrors
        ((finishClassification e).withLrv { e.lrv with buffer := buf })))).rxq = e.classifiedRxq.abandon := by
      simp [classifiedRxq_of_no_job no_job]
    rw [same]
    exact .lost
  | _ => exact .of_eq (by simp)

theorem owned_rxq (owned : Owned s cmd t) : RxqAfter s.rxq s.classifiedRxq .write t.rxq := by
  cases owned with
  | stops => exact .stopped
  | releases => exact .released
  | flushes => exact .flushed
  | _ => exact .of_eq (by simp)

theorem written_rxq (written : Written s t) : RxqAfter s.rxq s.classifiedRxq .write t.rxq := by
  cases written with
  | taken _ owned => exact owned_rxq owned
  | softReset => rw [takeSoftReset_rxq]; exact .softReset
  | watermark v => exact .watermark v
  | _ => exact .same

theorem completeRead_rxq {l : Load} (reads : s.spi.phase = .read l) :
    RxqAfter s.rxq s.classifiedRxq .other (completeRead s).rxq := by
  rw [completeRead_of_read s reads, State.withSpi_rxq]
  cases l.effect with
  | fill => exact .captured _ _ _
  | nextQueueByte => exact .moved
  | _ => exact .same

/-- Every event leaves the queue as one of the queue's own operations does. -/
theorem happens_rxq {k : Cause} (happens : Happens s k t) :
    RxqAfter s.rxq s.classifiedRxq k t.rxq := by
  cases happens with
  | reset => exact .reset
  | character _ level ended =>
    have after := ended_rxq ended
    rw [classifiedRxq_congr (s := s) (by simp) (by simp) (by simp)] at after
    simpa using after
  | truncated =>
    have kept : (s.withLrv { s.lrv with idle := some Config.frameGap }).classifiedRxq = s.classifiedRxq := rfl
    simpa [kept] using RxqAfter.lost
  | stuckInFrame => simpa using RxqAfter.lost
  | classification => rw [finishClassification_rxq]; exact .classified
  | written _ w => simpa using written_rxq w
  | read reads => exact completeRead_rxq reads
  | select => rw [selectPort_eq]; exact .same
  | deselect => rw [deselectPort_eq]; exact .same
  | commandByte => rw [commandLoaded_eq]; exact .same
  | arrivals => rw [noteArrivals_eq]; exact .same
  | _ => exact .of_eq (by simp)

end Queue

/-! #### The used bytes stay within the record memory (R87, R91, R96) -/

section Used
variable {q c : Rxq}

theorem Rxq.used_fallen (before : Nat) (q : Rxq) : (q.fallen before).used = q.used := by
  unfold Rxq.fallen
  split <;> rfl

theorem Rxq.used_claimed_le (h : Header) (r : Classified) (fits : q.used ≤ 4096) : (q.claimed h r).used ≤ 4096 := by
  have free : q.fits h = true → recordSize h.length ≤ 4096 - q.used := of_decide_eq_true
  cases room : q.fits h with
  | false =>
    simp only [Rxq.used, Rxq.claimed, Rxq.claimFor, room, Claim.size, Bool.false_eq_true, if_false] at *
    omega
  | true =>
    specialize free room
    simp only [Rxq.used, Rxq.claimed, Rxq.claimFor, room, Claim.size, if_true] at *
    omega

theorem Rxq.used_commit (stamp : Stamp) (payload : List Byte) (q : Rxq) :
    (q.commit stamp payload).used = q.used := by
  cases claim : q.claim with
  | nothing => simp [Rxq.commit, claim]
  | queueFull => simp [Rxq.commit, Rxq.used, claim, Claim.size]
  | reserved h r => simp [Rxq.commit, Rxq.used, Rxq.push, recordBytes, recordOf, claim, Claim.size]

theorem Rxq.used_abandon_le (q : Rxq) : q.abandon.used ≤ q.used := by
  rw [Rxq.abandon, Rxq.used_fallen]
  simp [Rxq.used, Claim.size]

theorem recordBytes_tail_le (rs : List Record) : recordBytes rs.tail ≤ recordBytes rs := by
  cases rs <;> simp [recordBytes]

theorem Rxq.used_release_le (q : Rxq) : q.release.used ≤ q.used := by
  rw [Rxq.release, Rxq.used_fallen]
  exact Nat.add_le_add_right (recordBytes_tail_le q.records) _

theorem Rxq.used_flush_le (q : Rxq) : q.flush.used ≤ q.used := by
  rw [Rxq.flush, Rxq.used_fallen]
  simp [Rxq.used, recordBytes]

@[simp] theorem Rxq.used_softReset (q : Rxq) : q.softReset.used = 0 := rfl

/-- The used bytes stay within the memory where the classification in flight would keep them there. -/
theorem RxqAfter.used_le {q' : Rxq} {k : Cause} (after : RxqAfter q c k q') (old : q.used ≤ 4096)
    (claimed : c.used ≤ 4096) : q'.used ≤ 4096 := by
  cases after with
  | same | watermark | captured | moved => exact old
  | classified => exact claimed
  | lost => exact c.used_abandon_le.trans claimed
  | committed => rwa [Rxq.used_commit]
  | stopped => exact q.used_abandon_le.trans old
  | released => exact q.used_release_le.trans old
  | flushed => exact q.used_flush_le.trans old
  | softReset | reset => exact Nat.zero_le _

theorem classifiedRxq_used_le {s : State} (fits : s.rxq.used ≤ 4096) : s.classifiedRxq.used ≤ 4096 := by
  unfold State.classifiedRxq
  split
  · exact fits
  · unfold Rxq.classified
    split
    · exact Rxq.used_claimed_le _ _ fits
    · exact fits

end Used

/-- Settles O53: a claim is made within the free bytes only, a commit turns it into a record of its size, and no
other operation of the queue adds bytes. -/
theorem stepKeepsQueueWithinMemory : Obligations.StepKeepsQueueWithinMemory := by
  intro s t fits next
  exact step_keeps (fun _ _ holds => holds)
    (fun holds happens => (happens_rxq happens).used_le holds (classifiedRxq_used_le holds)) fits next

end Sys2Proof.Machine
end

section
/-! ### The line sound along a step (R10, R11, R18, R21, R33, R34, R36, R133)

Outside ACTIVE everything of the line is at rest; in ACTIVE the receiver runs, and each event is checked for the
line's times, the responder, and what is held for the frame in flight. Most line events end with `syncIdle`, which
brings the idle hold into agreement whatever they did. -/

namespace Sys2Proof.Machine

/-! #### The invariant in parts -/

/-- Nothing is held for a frame in flight (section 2.4). -/
abbrev State.HoldsNothing (s : State) : Prop :=
  s.srt.inHand = none ∧ s.acf.job = none ∧ s.acf.held = none ∧ s.rxq.claim = .nothing ∧
    s.lvs.held = none ∧ s.rsp.inputs = none

/-- The receiver's times at this level of LRX (R18, R32, R33, R34). -/
structure Lrv.TimesAt (lrx : Bool) (l : Lrv) : Prop where
  idle : l.idle.isSome = (lrx && !l.charBusy)
  low : l.low.isSome = (!lrx && decide (l.rx ≠ .stuck))
  high : l.high.isSome = (lrx && decide (l.rx = .stuck))
  skip : l.skipIdle.isSome = decide (l.rx = .skip)
  free : l.rx = .stuck → l.charBusy = false

/-- In ACTIVE: line, receiver, responder and frame in flight agree. -/
structure State.Runs (s : State) : Prop where
  line : s.clc.line = .active
  settle : s.clc.settle = none
  operating : s.lrv.rx ≠ .off
  response : s.ResponseAgrees
  frame : s.FrameAgrees
  times : s.lrv.TimesAt s.lrx

/-- Outside ACTIVE: receiver and responder at rest, and a settle count in RISING only. -/
structure State.Rests (s : State) : Prop where
  line : s.clc.line ≠ .active
  settle : s.clc.settle.isSome ↔ s.clc.line = .rising
  off : s.lrv = .off
  idle : s.rsp.state = .idle
  nothing : s.HoldsNothing
  stopped : s.clc.idleCount = none

/-- What the idle-hold countdown holds, if it runs, is fit for it (R11). -/
structure State.IdleFit (s : State) : Prop where
  range : ∀ k ∈ s.clc.idleCount, 1 ≤ k ∧ k ≤ 255
  used : s.clc.idleCount.isSome → s.cfg.idleHold ≠ 0

section Parts
variable {s t : State}

theorem timesAt_iff {lrx : Bool} {l : Lrv} :
    l.TimesAt lrx ↔
      (l.idle.isSome ↔ lrx = true ∧ l.charBusy = false) ∧ (l.low.isSome ↔ lrx = false ∧ l.rx ≠ .stuck) ∧
      (l.high.isSome ↔ lrx = true ∧ l.rx = .stuck) ∧ (l.skipIdle.isSome ↔ l.rx = .skip) ∧
      (l.rx = .stuck → l.charBusy = false) := by
  constructor
  · intro ⟨idle, low, high, skip, free⟩
    simp [idle, low, high, skip]
    exact free
  · rintro ⟨idle, low, high, skip, free⟩
    exact ⟨Bool.eq_iff_iff.2 (by simpa using idle), Bool.eq_iff_iff.2 (by simpa using low),
      Bool.eq_iff_iff.2 (by simpa using high), Bool.eq_iff_iff.2 (by simpa using skip), free⟩

theorem State.LineSound.idleFit (sound : s.LineSound) : s.IdleFit := by
  obtain ⟨-, -, -, -, runs, range⟩ := sound
  exact ⟨range, fun some => (runs.1 some).2⟩

theorem idleHolds_iff : s.idleHolds = true ↔ (s.clc.line = .active ∧ s.lrv.rx = .hunt) ∧ s.rsp.state = .idle := by
  have isIdle : s.rsp.state.isIdle = true ↔ s.rsp.state = .idle := by
    cases s.rsp.state <;> simp [RspState.isIdle]
  simp [State.idleHolds, isIdle]

theorem State.LineSound.runs (sound : s.LineSound) (line : s.clc.line = .active) : s.Runs := by
  obtain ⟨⟨-, operating, settle⟩, response, frame, times, -⟩ := sound
  refine ⟨line, ?_, operating line, response, frame, timesAt_iff.2 (times line)⟩
  simpa [line] using settle

theorem State.LineSound.rests (sound : s.LineSound) (line : s.clc.line ≠ .active) : s.Rests := by
  obtain ⟨⟨at_rest, -, settle⟩, -, frame, -, runs, -⟩ := sound
  obtain ⟨off, idle⟩ := at_rest line
  refine ⟨line, settle, off, idle, frame.1 (by simp [off, Lrv.off]), ?_⟩
  simpa [idleHolds_iff, line] using runs

theorem State.Runs.lineSound (runs : s.Runs) (idle : s.IdleHoldAgrees) : s.LineSound :=
  ⟨⟨fun line => absurd runs.line line, fun _ => runs.operating, by simp [runs.settle, runs.line]⟩,
    runs.response, runs.frame, fun _ => timesAt_iff.1 runs.times, idle⟩

theorem State.Rests.lineSound (rests : s.Rests) : s.LineSound := by
  obtain ⟨line, settle, off, idle, nothing, stopped⟩ := rests
  refine ⟨⟨fun _ => ⟨off, idle⟩, fun active => absurd active line, settle⟩,
    ⟨fun busy => absurd idle busy, fun _ => by rw [off]; rfl⟩, ⟨fun _ => nothing, fun job => absurd nothing.2.1 job,
      fun mode => absurd (by rw [off]; rfl) mode⟩, fun active => absurd active line, ?_, by simp [stopped]⟩
  simp [stopped, idleHolds_iff, line]

theorem State.LineSound.line_of_rx (sound : s.LineSound) (rx : s.lrv.rx ≠ .off) : s.clc.line = .active := by
  by_contra line
  rw [(sound.rests line).off] at rx
  exact rx rfl

theorem State.LineSound.line_of_busy (sound : s.LineSound) (busy : s.lrv.charBusy = true) :
    s.clc.line = .active := by
  by_contra line
  rw [(sound.rests line).off] at busy
  exact Bool.false_ne_true busy

theorem State.LineSound.line_of_rsp (sound : s.LineSound) (rsp : s.rsp.state ≠ .idle) : s.clc.line = .active := by
  by_contra line
  exact rsp (sound.rests line).idle

/-- While the receiver is not in HUNT or STUCK, or does not frame characters, no response is under way. -/
theorem State.Runs.rsp_idle (runs : s.Runs)
    (h : s.lrv.mode ≠ .framed ∨ (s.lrv.rx ≠ .hunt ∧ s.lrv.rx ≠ .stuck)) : s.rsp.state = .idle := by
  by_contra busy
  obtain ⟨framed, rx⟩ := runs.response.1 busy
  obtain h | ⟨hunt, stuck⟩ := h
  · exact h framed
  · exact rx.elim hunt stuck

theorem State.Runs.holdsNothing (runs : s.Runs) (rx : s.lrv.rx ≠ .body) : s.HoldsNothing := runs.frame.1 rx

theorem State.Runs.framed (runs : s.Runs) (rx : s.lrv.rx ≠ .hunt) : s.lrv.mode = .framed := by
  by_contra mode
  exact rx (runs.frame.2.2 mode)

/-- With no response under way there is nothing for the responder to agree with. -/
theorem responseAgrees_of_idle (idle : s.rsp.state = .idle) : s.ResponseAgrees :=
  ⟨fun busy => absurd idle busy, fun waiting => by simp [idle, RspState.code] at waiting⟩

theorem frameAgrees_of_holdsNothing (nothing : s.HoldsNothing) (mode : s.lrv.mode ≠ .framed → s.lrv.rx = .hunt) :
    s.FrameAgrees :=
  ⟨fun _ => nothing, fun job => absurd nothing.2.1 job, mode⟩

end Parts

/-! #### Events that touch nothing of the line -/

/-- Whether each block holds something for the frame in flight. -/
def State.heldFor (s : State) : List Bool :=
  [s.srt.inHand.isSome, s.acf.job.isSome, s.acf.held.isSome, decide (s.rxq.claim = .nothing), s.lvs.held.isSome,
    s.rsp.inputs.isSome]

section Same
variable {s t : State}

theorem heldFor_eq_iff :
    t.heldFor = s.heldFor ↔
      (t.srt.inHand = none ↔ s.srt.inHand = none) ∧ (t.acf.job = none ↔ s.acf.job = none) ∧
      (t.acf.held = none ↔ s.acf.held = none) ∧ (t.rxq.claim = .nothing ↔ s.rxq.claim = .nothing) ∧
      (t.lvs.held = none ↔ s.lvs.held = none) ∧ (t.rsp.inputs = none ↔ s.rsp.inputs = none) := by
  have isSome_eq : ∀ {α : Type} (a b : Option α), (a.isSome = b.isSome) = (a = none ↔ b = none) := by
    intro α a b
    cases a <;> cases b <;> simp
  simp [State.heldFor, isSome_eq]

theorem State.FrameAgrees.of_heldFor (frame : s.FrameAgrees) (held : t.heldFor = s.heldFor)
    (rx : t.lrv.rx ≠ .body → s.lrv.rx ≠ .body) (mode : t.lrv.mode ≠ .framed → t.lrv.rx = .hunt) :
    t.FrameAgrees := by
  obtain ⟨inHand, job, acfHeld, claim, lvsHeld, inputs⟩ := heldFor_eq_iff.1 held
  refine ⟨fun body => ?_, fun running => ?_, mode⟩
  · simpa only [inHand, job, acfHeld, claim, lvsHeld, inputs] using frame.1 (rx body)
  · rw [Ne, job] at running
    simpa only [acfHeld, claim, lvsHeld] using frame.2.1 running

/-- Soundness looks at the line, the receiver, the responder's state and what is held only. -/
theorem State.LineSound.of_same (sound : s.LineSound) (held : t.heldFor = s.heldFor) (lrx : t.lrx = s.lrx)
    (clc : t.clc = s.clc) (lrv : t.lrv = s.lrv) (rsp : t.rsp.state = s.rsp.state)
    (cfg : t.cfg.idleHold = s.cfg.idleHold) : t.LineSound := by
  obtain ⟨lineAgrees, response, frame, times, idle⟩ := sound
  have holds : t.idleHolds = s.idleHolds := by simp only [State.idleHolds, clc, lrv, rsp]
  refine ⟨?_, ?_, frame.of_heldFor held (by rw [lrv]; exact id) (by rw [lrv]; exact frame.2.2), ?_, ?_⟩
  · simpa only [State.LineAgrees, clc, lrv, rsp] using lineAgrees
  · simpa only [State.ResponseAgrees, lrv, rsp] using response
  · simpa only [State.TimesAgree, clc, lrv, lrx] using times
  · simpa only [State.IdleHoldAgrees, clc, holds, cfg] using idle

end Same

/-! #### The idle hold (R11) -/

section IdleHold
variable {s : State}

theorem State.Runs.withIdleCount (runs : s.Runs) (c : Option Nat) :
    (s.withClc { s.clc with idleCount := c }).Runs :=
  ⟨runs.line, runs.settle, runs.operating, runs.response, runs.frame, runs.times⟩

theorem loadedIdle_isSome : s.loadedIdle.isSome ↔ s.cfg.idleHold ≠ 0 := by
  unfold State.loadedIdle
  split
  · next zero => simp [zero]
  · next ne => simpa using ne

theorem loadedIdle_range {k : Nat} (loaded : k ∈ s.loadedIdle) : 1 ≤ k ∧ k ≤ 255 := by
  unfold State.loadedIdle at loaded
  split at loaded
  · cases loaded
  · next ne =>
    cases loaded
    have lt : s.cfg.idleHold.toNat < 256 := s.cfg.idleHold.isLt
    have pos : s.cfg.idleHold.toNat ≠ 0 := fun zero => ne (BitVec.eq_of_toNat_eq zero)
    omega

/-- The countdown freshly loaded while it holds. -/
theorem State.Runs.lineSound_loadIdle (runs : s.Runs) (holds : s.idleHolds = true) : (loadIdle s).LineSound := by
  refine (runs.withIdleCount _).lineSound ⟨?_, fun k loaded => loadedIdle_range loaded⟩
  have still : (loadIdle s).idleHolds = true := holds
  change s.loadedIdle.isSome ↔ (loadIdle s).idleHolds = true ∧ s.cfg.idleHold ≠ 0
  simp [still, loadedIdle_isSome]

/-- The idle hold's part after a line event brings the countdown into agreement. -/
theorem State.Runs.lineSound_syncIdle (runs : s.Runs) (fit : s.IdleFit) : (syncIdle s).LineSound := by
  unfold syncIdle
  split
  · next holds =>
    split
    · exact runs.lineSound_loadIdle holds
    · next running =>
      refine runs.lineSound ⟨?_, fit.range⟩
      have some : s.clc.idleCount.isSome = true := by simpa [Option.isSome_iff_ne_none] using running
      simpa [some, holds] using fit.used some
  · next holds =>
    refine (runs.withIdleCount none).lineSound ⟨?_, by simp⟩
    have still : (s.withClc { s.clc with idleCount := none }).idleHolds = s.idleHolds := rfl
    simpa [still] using fun h => absurd h holds

theorem State.IdleFit.of_same {t : State} (fit : s.IdleFit) (clc : t.clc = s.clc) (cfg : t.cfg = s.cfg) :
    t.IdleFit :=
  ⟨by rw [clc]; exact fit.range, by rw [clc, cfg]; exact fit.used⟩

/-- A line event that leaves the countdown alone, with the idle hold's part after it. -/
theorem State.LineSound.sync {t : State} (sound : s.LineSound) (runs : t.Runs) (clc : t.clc = s.clc)
    (cfg : t.cfg = s.cfg) : (syncIdle t).LineSound :=
  runs.lineSound_syncIdle (sound.idleFit.of_same clc cfg)

/-- An event in ACTIVE that leaves the three conditions of the idle hold alone. -/
theorem State.LineSound.keepIdle {t : State} (sound : s.LineSound) (runs : t.Runs) (clc : t.clc = s.clc)
    (cfg : t.cfg = s.cfg) (holds : t.idleHolds = s.idleHolds) : t.LineSound := by
  obtain ⟨-, -, -, -, idle⟩ := sound
  exact runs.lineSound (by simpa only [State.IdleHoldAgrees, clc, cfg, holds] using idle)

end IdleHold

end Sys2Proof.Machine
end

section
/-! ### Each event keeps the line sound -/

namespace Sys2Proof.Machine

/-! #### Events that leave the line at rest -/

section Resting
variable {s t : State}

theorem resetBlocks_rests (s : State) : (resetBlocks s).Rests where
  line := by simp [resetBlocks, State.reset]
  settle := by simp [resetBlocks, State.reset]
  off := rfl
  idle := rfl
  nothing := ⟨rfl, rfl, rfl, rfl, rfl, rfl⟩
  stopped := rfl

@[simp] theorem Rxq.fallen_claim (before : Nat) (q : Rxq) : (q.fallen before).claim = q.claim := by
  unfold Rxq.fallen
  split <;> rfl

theorem stopTheLine_rests (s : State) : (stopTheLine s).Rests where
  line := by simp [stopTheLine]
  settle := by simp [stopTheLine]
  off := rfl
  idle := rfl
  nothing := ⟨rfl, rfl, rfl, Rxq.fallen_claim _ _, rfl, rfl⟩
  stopped := rfl

theorem takeSoftReset_rests (s : State) : (takeSoftReset s).Rests where
  line := by simp [takeSoftReset, stopTheLine]
  settle := by simp [takeSoftReset, stopTheLine]
  off := rfl
  idle := rfl
  nothing := ⟨rfl, rfl, rfl, rfl, rfl, rfl⟩
  stopped := rfl

/-- A part at rest stays so whatever happens to LRX. -/
theorem State.Rests.withLrx (rests : s.Rests) (level : Bool) : (s.withLrx level).Rests :=
  ⟨rests.line, rests.settle, rests.off, rests.idle, rests.nothing, rests.stopped⟩

theorem State.Rests.withCfg (rests : s.Rests) (cfg : LockedConfig) : (s.withCfg cfg).Rests :=
  ⟨rests.line, rests.settle, rests.off, rests.idle, rests.nothing, rests.stopped⟩

theorem enterRising_rests (off : s.lrv = .off) (idle : s.rsp.state = .idle) (nothing : s.HoldsNothing) :
    (enterRising s).Rests :=
  ⟨by simp [enterRising], by simp [enterRising], off, idle, nothing, rfl⟩

theorem enterListen_rests (off : s.lrv = .off) (idle : s.rsp.state = .idle) (nothing : s.HoldsNothing) :
    (enterListen s).Rests := by
  unfold enterListen
  split
  · exact ⟨by simp, by simp, off, idle, nothing, rfl⟩
  · exact enterRising_rests off idle nothing

/-- Idle-hold expiry finds the responder IDLE and the receiver in HUNT, with nothing held. -/
theorem expireIdle_rests (runs : s.Runs) (holds : s.idleHolds = true) : (expireIdle s).Rests := by
  obtain ⟨⟨-, hunt⟩, idle⟩ := idleHolds_iff.1 holds
  have nothing := runs.holdsNothing (by simp [hunt])
  exact enterListen_rests (s := s.withLrv .off) rfl idle nothing

end Resting

/-! #### Ticks -/

section Ticks
variable {s : State}

theorem tickIdle_lineSound (sound : s.LineSound) : (tickIdle s).LineSound := by
  unfold tickIdle
  split
  · exact sound
  · next k count =>
    split
    · exact sound
    · next counts =>
      obtain ⟨-, holds⟩ : ¬s.lrv.charBusy = true ∧ s.idleHolds = true := by simpa using counts
      have runs := sound.runs (idleHolds_iff.1 holds).1.1
      split
      · exact (expireIdle_rests runs holds).lineSound
      · next above =>
        have range := sound.idleFit.range k count
        refine (runs.withIdleCount _).lineSound ⟨?_, by simp; omega⟩
        have used := sound.idleFit.used (by simp [count])
        have still : (s.withClc { s.clc with idleCount := some (k - 1) }).idleHolds = true := holds
        simpa [still] using used

@[simp] theorem tickSlots_held : (tickSlots s).lvs.held = s.lvs.held := by
  unfold tickSlots
  dsimp only
  split <;> rfl

theorem doTick_lineSound (sound : s.LineSound) : (doTick s).LineSound := by
  refine tickIdle_lineSound (sound.of_same ?_ (by simp) (by simp) (by simp) (by simp) (by simp))
  simp [State.heldFor]

end Ticks

/-! #### Host commands and the port -/

section Host
variable {s t : State} {cmd : Cmd}

/-- No source command touches the relation in hand. -/
@[simp] theorem sourceEffect_inHand (c : Cmd) (arg : Byte) (stamp : Stamp) (t : Srt) :
    (sourceEffect c arg stamp t).1.inHand = t.inHand := by
  cases c with
  | pinSource =>
    simp only [sourceEffect, pinEffect]
    split
    · rfl
    · split <;> rfl
  | unpinSource => simp only [sourceEffect, unpinEffect]; split <;> rfl
  | forgetSource => simp only [sourceEffect, forgetEffect]; split <;> rfl
  | readSource => simp only [sourceEffect, readSourceEffect]; split <;> rfl
  | _ => rfl

theorem Acf.noteRewritten_held (n : Nat) (a : Acf) : (a.noteRewritten n).held.isSome = a.held.isSome := by
  unfold Acf.noteRewritten
  split
  · rfl
  · next held =>
    split
    · simp [held]
    · rfl

/-- An entry command can note the copy of a result as rewritten, and no more of it. -/
@[simp] theorem entryEffect_held (c : Cmd) (arg : Byte) (a : Acf) :
    (entryEffect c arg a).1.held.isSome = a.held.isSome := by
  cases c with
  | commitEntry =>
    simp only [entryEffect, commitEffect]
    split
    · exact Acf.noteRewritten_held _ _
    · rfl
  | clearEntry =>
    simp only [entryEffect, clearEffect]
    split
    · rfl
    · exact Acf.noteRewritten_held _ _
  | readEntry => simp only [entryEffect, readEffect]; split <;> rfl
  | _ => rfl

@[simp] theorem Rxq.release_claim (q : Rxq) : q.release.claim = q.claim := Rxq.fallen_claim _ _

@[simp] theorem Rxq.flush_claim (q : Rxq) : q.flush.claim = q.claim := Rxq.fallen_claim _ _

theorem owned_lineSound (sound : s.LineSound) (owned : Owned s cmd t) : t.LineSound := by
  cases owned with
  | startsRising _ line =>
    have rests := sound.rests (by simp [line])
    refine State.LineSound.of_same (enterRising_rests rests.off rests.idle rests.nothing).lineSound rfl rfl rfl rfl
      rfl rfl
  | startsListen _ line =>
    have rests := sound.rests (by simp [line])
    refine State.LineSound.of_same (enterListen_rests rests.off rests.idle rests.nothing).lineSound rfl rfl rfl rfl
      rfl rfl
  | stops => exact (stopTheLine_rests s).lineSound.of_same rfl rfl rfl rfl rfl rfl
  | source => exact sound.of_same (by simp [State.heldFor]) rfl rfl rfl rfl rfl
  | entry => exact sound.of_same (by simp [State.heldFor]) rfl rfl rfl rfl rfl
  | releases | flushes => exact sound.of_same (by simp [State.heldFor]) rfl rfl rfl rfl rfl
  | _ => exact sound.of_same rfl rfl rfl rfl rfl rfl

theorem written_lineSound (sound : s.LineSound) (written : Written s t) : t.LineSound := by
  cases written with
  | taken _ owned => exact owned_lineSound sound owned
  | softReset => exact (takeSoftReset_rests s).lineSound
  | config reg v dormant => exact ((sound.rests (by simp [dormant])).withCfg _).lineSound
  | _ => exact sound.of_same rfl rfl rfl rfl rfl rfl

theorem completeRead_lineSound (sound : s.LineSound) {l : Load} (reads : s.spi.phase = .read l) :
    (completeRead s).LineSound := by
  rw [completeRead_of_read s reads]
  cases l.effect with
  | _ => exact sound.of_same rfl rfl rfl rfl rfl rfl

theorem Lvs.endCopy_held (l : Lvs) : l.endCopy.held = l.held := by
  unfold Lvs.endCopy
  split <;> rfl

theorem copyDone_lvs : (copyDone s).lvs.held = s.lvs.held := by
  unfold copyDone
  split
  · dsimp only
    split <;> simp [Lvs.endCopy_held]
  · rfl

end Host

/-! #### Classification, commit and loss of a frame -/

section Frame
variable {s e t u : State}

@[simp] theorem finishClassification_rsp_state : (finishClassification s).rsp.state = s.rsp.state := by
  cases job : s.acf.job with
  | none => rw [finishClassification_of_none job]
  | some j => rw [finishClassification_eq job]

theorem finishClassification_runs (runs : s.Runs) : (finishClassification s).Runs := by
  by_cases job : s.acf.job = none
  · rwa [finishClassification_of_none job]
  · have body : s.lrv.rx = .body := by
      by_contra rx
      exact job (runs.holdsNothing rx).2.1
    constructor
    · simpa using runs.line
    · simpa using runs.settle
    · simpa using runs.operating
    · simpa [State.ResponseAgrees] using runs.response
    · exact ⟨fun rx => absurd body (by simpa using rx), fun running => absurd finishClassification_job running,
        by simpa using runs.frame.2.2⟩
    · simpa using runs.times

@[simp] theorem Acf.commit_held (a : Acf) : a.commit.held = none := by
  unfold Acf.commit
  split
  · next held => exact held
  · rfl

@[simp] theorem Acf.commit_job (a : Acf) : a.commit.job = a.job := by
  unfold Acf.commit
  split <;> rfl

@[simp] theorem Rxq.commit_claim (stamp : Stamp) (p : List Byte) (q : Rxq) : (q.commit stamp p).claim = .nothing := by
  unfold Rxq.commit
  split
  · next claim => exact claim
  · rfl
  · rfl

@[simp] theorem Lvs.commit_held (c : SlotContent) (l : Lvs) : (l.commit c).held = none := by
  unfold Lvs.commit
  split
  · next held => exact held
  · rfl

@[simp] theorem Rsp.commit_inputs (own : Byte) (r : Rsp) : (r.commit own).inputs = none := by
  unfold Rsp.commit
  split
  · next inputs => exact inputs
  · split <;> rfl

@[simp] theorem Rxq.abandon_claim (q : Rxq) : q.abandon.claim = .nothing := Rxq.fallen_claim _ _

/-- A property of the source tracker that no source command changes is that of the tracker its turn starts
with. -/
theorem sourceRun_keeps {α : Sort*} (field : Srt → α)
    (keeps : ∀ c arg stamp t, field (sourceEffect c arg stamp t).1 = field t) (left : Srt) :
    field (s.sourceRun left).1 = field left := by
  unfold State.sourceRun
  split
  · rfl
  · split
    · exact keeps _ _ _ _
    · rfl

@[simp] theorem sourceRun_inHand (left : Srt) : (s.sourceRun left).1.inHand = left.inHand :=
  sourceRun_keeps (·.inHand) sourceEffect_inHand left

@[simp] theorem entryRun_job (left : Acf) : (s.entryRun left).1.job = left.job :=
  entryRun_keeps (·.job) entryEffect_job left

/-- A commit leaves nothing held, with no classification in flight. -/
theorem commitFrame_holdsNothing (job : s.acf.job = none) : (commitFrame s).HoldsNothing := by
  simp [State.HoldsNothing, State.committedSrt, job]

theorem loseFrame_holdsNothing (s : State) : (loseFrame s).HoldsNothing := by
  simp [State.HoldsNothing, loseFrame_srt]

@[simp] theorem loseToSkip_lrv (k : Counter) :
    (loseToSkip k s).lrv =
      { s.lrv with rx := .skip, mode := .framed, skipIdle := some 0, buffer := .empty } := by
  simp [loseToSkip, enterSkip]

theorem loseToSkip_holdsNothing (k : Counter) (s : State) : (loseToSkip k s).HoldsNothing := by
  simpa [loseToSkip, State.HoldsNothing] using loseFrame_holdsNothing (count k s)

@[simp] theorem loseToSkip_rsp_state (k : Counter) : (loseToSkip k s).rsp.state = s.rsp.state := by
  simp [loseToSkip]

/-- Entry to SKIP from a state in which no frame is framed starts SKIP's count and touches no other time. -/
theorem Lrv.TimesAt.skipped {lrx : Bool} {l : Lrv} (times : l.TimesAt lrx) (stuck : l.rx ≠ .stuck)
    (buf : FrameBuffer) :
    { l with rx := .skip, mode := .framed, skipIdle := some 0, buffer := buf }.TimesAt lrx :=
  ⟨times.idle, by simpa [stuck] using times.low, by simpa [stuck] using times.high, rfl, nofun⟩

/-- Entry to another state than SKIP and STUCK from one that is not STUCK ends SKIP's count only. -/
theorem Lrv.TimesAt.entered {lrx : Bool} {l : Lrv} (times : l.TimesAt lrx) (stuck : l.rx ≠ .stuck) {rx : RxState}
    (into : rx = .hunt ∨ rx = .header ∨ rx = .body) (mode : HuntMode) (buf : FrameBuffer) :
    { l with rx := rx, mode := mode, skipIdle := none, buffer := buf }.TimesAt lrx := by
  have not_stuck : rx ≠ .stuck := by rintro rfl; simp at into
  have not_skip : rx ≠ .skip := by rintro rfl; simp at into
  exact ⟨times.idle, by simpa [stuck, not_stuck] using times.low, by simpa [stuck, not_stuck] using times.high,
    by simp [not_skip], fun h => absurd h not_stuck⟩

/-- A frame lost to the line leaves the receiver in SKIP with nothing held. -/
theorem loseToSkip_runs (runs : s.Runs) (frame : s.lrv.rx = .header ∨ s.lrv.rx = .body) (k : Counter) :
    (loseToSkip k s).Runs := by
  have stuck : s.lrv.rx ≠ .stuck := by rintro stuck; simp [stuck] at frame
  have hunt : s.lrv.rx ≠ .hunt := by rintro hunt; simp [hunt] at frame
  have idle := runs.rsp_idle (.inr ⟨hunt, stuck⟩)
  constructor
  · simpa using runs.line
  · simpa using runs.settle
  · simp
  · exact responseAgrees_of_idle (by simpa using idle)
  · exact frameAgrees_of_holdsNothing (loseToSkip_holdsNothing k s) (by simp)
  · simpa using runs.times.skipped stuck _

end Frame

end Sys2Proof.Machine
end

section
/-! ### The end of a character and the other line events keep the line sound -/

namespace Sys2Proof.Machine

section Times
variable {lrx : Bool} {l : Lrv}

/-- The receiver taking a level of LRX outside STUCK (R18, R33). -/
theorem Lrv.TimesAt.noted (times : l.TimesAt lrx) (stuck : l.rx ≠ .stuck) (level : Bool) :
    { l with
      low := if level then none else some (l.low.getD 0)
      idle := if level ∧ !l.charBusy then some (l.idle.getD 0) else none }.TimesAt level := by
  have high : l.high.isSome = false := by simpa [stuck] using times.high
  refine ⟨?_, ?_, ?_, times.skip, times.free⟩
  · cases level <;> cases l.charBusy <;> simp
  · cases level <;> simp [stuck]
  · simp [high, stuck]

theorem Lrv.TimesAt.withBuffer (times : l.TimesAt lrx) (buf : FrameBuffer) :
    { l with buffer := buf }.TimesAt lrx :=
  ⟨times.idle, times.low, times.high, times.skip, times.free⟩

theorem Lrv.TimesAt.withMode (times : l.TimesAt lrx) (mode : HuntMode) : { l with mode := mode }.TimesAt lrx :=
  ⟨times.idle, times.low, times.high, times.skip, times.free⟩

/-- The idle time goes on from another figure. -/
theorem Lrv.TimesAt.withIdle (times : l.TimesAt lrx) (running : l.idle.isSome = true) {idle : Option Nat}
    (still : idle.isSome = true) : { l with idle := idle }.TimesAt lrx :=
  ⟨by simpa [running, still] using times.idle, times.low, times.high, times.skip, times.free⟩

theorem Lrv.TimesAt.started (lrx : Bool) : (Lrv.started lrx).TimesAt lrx := by
  cases lrx <;> constructor <;> simp [Lrv.started, Lrv.off]

end Times

/-! #### Levels and the end of a character -/

section Levels
variable {s e u t : State} {level : Bool}

@[simp] theorem noteLevel_lrx : (noteLevel level s).lrx = level := rfl

@[simp] theorem endCharacter_lrx : (endCharacter level s).lrx = level := rfl

/-- The end of a character at the receiver is what the statements call so (R17, R18, R33). -/
@[simp] theorem endCharacter_lrv : (endCharacter level s).lrv = s.lrv.afterCharacter level := by
  cases level <;> rfl

@[simp] theorem noteLevel_rx : (noteLevel level s).lrv.rx = s.lrv.rx := rfl
@[simp] theorem noteLevel_mode : (noteLevel level s).lrv.mode = s.lrv.mode := rfl
@[simp] theorem noteLevel_charBusy : (noteLevel level s).lrv.charBusy = s.lrv.charBusy := rfl
@[simp] theorem afterCharacter_rx (l : Lrv) : (l.afterCharacter level).rx = l.rx := rfl
@[simp] theorem afterCharacter_mode (l : Lrv) : (l.afterCharacter level).mode = l.mode := rfl
@[simp] theorem afterCharacter_charBusy (l : Lrv) : (l.afterCharacter level).charBusy = false := rfl
@[simp] theorem afterCharacter_buffer (l : Lrv) : (l.afterCharacter level).buffer = l.buffer := rfl

theorem noteLevel_runs (runs : s.Runs) (stuck : s.lrv.rx ≠ .stuck) : (noteLevel level s).Runs :=
  ⟨runs.line, runs.settle, runs.operating, runs.response, runs.frame, runs.times.noted stuck level⟩

/-- A receiver whose character is over, in a state that runs. -/
theorem withCharBusy_runs (runs : s.Runs) (level : Bool) (stuck : s.lrv.rx ≠ .stuck) :
    (endCharacter level s).Runs := by
  have times : { s.lrv with charBusy := false, idle := if s.lrx then some 0 else none }.TimesAt s.lrx :=
    ⟨by cases s.lrx <;> simp, runs.times.low, runs.times.high, runs.times.skip, fun _ => rfl⟩
  refine ⟨by simpa using runs.line, by simpa using runs.settle, by simpa using runs.operating, ?_, runs.frame, ?_⟩
  · exact ⟨runs.response.1, fun _ => rfl⟩
  · have ended := times.noted stuck level
    exact ⟨by cases level <;> simp [Lrv.afterCharacter], ended.low, ended.high, ended.skip, ended.free⟩

/-- A character in progress is not one of STUCK, nor of a response's wait. -/
theorem endCharacter_runs (runs : s.Runs) (busy : s.lrv.charBusy = true) :
    (endCharacter level s).Runs ∧ (endCharacter level s).rsp.state.code ≠ 1 := by
  have stuck : s.lrv.rx ≠ .stuck := fun stuck => by simp [runs.times.free stuck] at busy
  refine ⟨withCharBusy_runs runs level stuck, fun waiting => ?_⟩
  have free := runs.response.2 (by simpa using waiting)
  simp [free] at busy

theorem rsp_idle_of_code {r : RspState} (not_waiting : r.code ≠ 1) (not_sending : r.code ≠ 2) : r = .idle := by
  cases r with
  | idle => rfl
  | waiting => exact absurd rfl not_waiting
  | sending => exact absurd rfl not_sending

end Levels

/-! #### The receiver after a character -/

section Character
variable {s e u t : State}

theorem enterHeader_runs (runs : e.Runs) (hunt : e.lrv.rx = .hunt) (idle : e.rsp.state = .idle) :
    (enterHeader e).Runs where
  line := by simpa using runs.line
  settle := by simpa using runs.settle
  operating := by simp [enterHeader]
  response := responseAgrees_of_idle (by simpa using idle)
  frame := frameAgrees_of_holdsNothing (by simpa [State.HoldsNothing] using runs.holdsNothing (by simp [hunt]))
    (by simp [enterHeader])
  times := by simpa [enterHeader] using runs.times.entered (by simp [hunt]) (.inr (.inl rfl)) .framed .empty

theorem enterSkip_runs (runs : e.Runs) (rx : e.lrv.rx ≠ .body ∧ e.lrv.rx ≠ .stuck) (idle : e.rsp.state = .idle) :
    (enterSkip e).Runs where
  line := by simpa using runs.line
  settle := by simpa using runs.settle
  operating := by simp [enterSkip]
  response := responseAgrees_of_idle (by simpa using idle)
  frame := frameAgrees_of_holdsNothing (by simpa [State.HoldsNothing] using runs.holdsNothing rx.1)
    (by simp [enterSkip])
  times := by simpa [enterSkip] using runs.times.skipped rx.2 e.lrv.buffer

/-- Counting keeps every block but the counters and the notification unit. -/
theorem count_runs (runs : e.Runs) (k : Counter) : (count k e).Runs where
  line := by simpa using runs.line
  settle := by simpa using runs.settle
  operating := by simpa using runs.operating
  response := by simpa [State.ResponseAgrees] using runs.response
  frame := by simpa [State.FrameAgrees] using runs.frame
  times := by simpa using runs.times

theorem raise_runs (runs : e.Runs) (f : Flag) : (raise f e).Runs :=
  ⟨runs.line, runs.settle, runs.operating, runs.response, runs.frame, runs.times⟩

theorem withBuffer_runs (runs : e.Runs) (buf : FrameBuffer) :
    (e.withLrv { e.lrv with buffer := buf }).Runs :=
  ⟨runs.line, runs.settle, runs.operating, runs.response, runs.frame, runs.times.withBuffer buf⟩

theorem withRsp_idle_runs (runs : e.Runs) : (e.withRsp { e.rsp with state := .idle }).Runs :=
  ⟨runs.line, runs.settle, runs.operating, responseAgrees_of_idle rfl, runs.frame, runs.times⟩

theorem handOn_acf_held (h : Header) (s : State) : (handOn h s).acf.held = s.acf.held := by
  unfold handOn
  dsimp only
  repeat' split
  all_goals rfl

theorem handOn_rsp_state (h : Header) (s : State) : (handOn h s).rsp.state = s.rsp.state := by
  unfold handOn
  dsimp only
  repeat' split
  all_goals rfl

theorem goodHeader_runs (runs : e.Runs) (header : e.lrv.rx = .header) (buf : FrameBuffer) (h : Header) :
    ((handOn h (e.withLrv { e.lrv with buffer := buf })).withLrv { e.lrv with buffer := buf, rx := .body }).Runs := by
  obtain ⟨-, -, held, claim, slot, -⟩ := runs.holdsNothing (by simp [header])
  have idle := runs.rsp_idle (.inr (by simp [header]))
  have framed := runs.framed (by simp [header])
  have skip : e.lrv.skipIdle = none := by simpa [header] using runs.times.skip
  constructor
  · simpa using runs.line
  · simpa using runs.settle
  · simp
  · exact responseAgrees_of_idle (by simpa [handOn_rsp_state] using idle)
  · exact ⟨fun rx => absurd rfl rx, fun _ => by simp [handOn_acf_held, held, claim, slot], by simp [framed]⟩
  · simpa [framed, skip] using runs.times.entered (by simp [header]) (.inr (.inr rfl)) .framed buf

/-- The receiver back in HUNT after a frame, with nothing held. -/
theorem hunt_runs (runs : e.Runs) (rx : e.lrv.rx ≠ .stuck) (clc : t.clc = e.clc) (lrx : t.lrx = e.lrx)
    {buf : FrameBuffer}
    (lrv : t.lrv = { e.lrv with rx := .hunt, mode := .framed, high := none, skipIdle := none, buffer := buf })
    (free : e.lrv.charBusy = false) (nothing : t.HoldsNothing) : t.Runs where
  line := by rw [clc]; exact runs.line
  settle := by rw [clc]; exact runs.settle
  operating := by simp [lrv]
  response := ⟨fun _ => by simp [lrv], fun _ => by simpa [lrv] using free⟩
  frame := frameAgrees_of_holdsNothing nothing (by simp [lrv])
  times := by
    rw [lrx, lrv]
    have high : e.lrv.high = none := by simpa [rx] using runs.times.high
    simpa [high] using runs.times.entered rx (.inl rfl) .framed buf

theorem checkError_runs (runs : e.Runs) (body : e.lrv.rx = .body) (free : e.lrv.charBusy = false)
    (buf : FrameBuffer) :
    (enterHunt (loseFrame (count .checkErrors (e.withLrv { e.lrv with buffer := buf })))).Runs := by
  refine hunt_runs runs (by simp [body]) (by simp) (by simp) (buf := .empty) (by simp [enterHunt]) free ?_
  simpa [State.HoldsNothing] using loseFrame_holdsNothing (count .checkErrors (e.withLrv { e.lrv with buffer := buf }))

theorem commitFrame_runs (runs : e.Runs) (body : e.lrv.rx = .body) (job : e.acf.job = none)
    (free : e.lrv.charBusy = false) (buf : FrameBuffer) :
    (commitFrame (e.withLrv { e.lrv with buffer := buf })).Runs :=
  hunt_runs runs (by simp [body]) (by simp) (by simp) (by simp; rfl) free (commitFrame_holdsNothing job)

theorem readbackMismatch_runs (runs : e.Runs) (sending : e.rsp.state ≠ .idle) : (readbackMismatch e).Runs := by
  have stopped := count_runs (withRsp_idle_runs runs) .responseAborts
  unfold readbackMismatch
  dsimp only
  split
  · exact stopped
  · next stuck =>
    obtain ⟨-, rx⟩ := runs.response.1 sending
    refine enterSkip_runs stopped ⟨?_, stuck⟩ (by simp)
    obtain hunt | stuck := rx
    · simp [hunt]
    · simp [stuck]

theorem rsp_ne_idle_of_sending {r : RspState} (sending : r.code = 2) : r ≠ .idle := by
  rintro rfl
  exact absurd sending (by decide)

/-- A character that has ended leaves line, receiver and responder in agreement. -/
theorem ended_runs (runs : e.Runs) (free : e.lrv.charBusy = false) (not_waiting : e.rsp.state.code ≠ 1)
    (ended : Ended e u) : u.Runs := by
  cases ended with
  | ignored => exact runs
  | delimiter hunt _ quiet => exact enterHeader_runs runs hunt (rsp_idle_of_code not_waiting quiet)
  | noDelimiter hunt _ quiet =>
    exact enterSkip_runs runs (by simp [hunt]) (rsp_idle_of_code not_waiting quiet)
  | headerByte _ buf => exact withBuffer_runs runs buf
  | badHeader header buf k =>
    have idle := runs.rsp_idle (.inr (by simp [header]))
    exact enterSkip_runs (count_runs (withBuffer_runs runs buf) k) (by simp [header]) (by simpa using idle)
  | goodHeader header buf h => exact goodHeader_runs runs header buf h
  | framingError frame => exact loseToSkip_runs runs frame _
  | framingErrorLate body => exact loseToSkip_runs (finishClassification_runs runs) (.inr (by simpa using body)) _
  | bodyByte _ buf => simpa using withBuffer_runs (finishClassification_runs runs) buf
  | commit body buf =>
    simpa using commitFrame_runs (finishClassification_runs runs) (by simpa using body) finishClassification_job
      (by simpa using free) buf
  | checkError body buf =>
    simpa using checkError_runs (finishClassification_runs runs) (by simpa using body) (by simpa using free) buf
  | echoed sending chars done =>
    have response := runs.response.1 (rsp_ne_idle_of_sending sending)
    exact ⟨runs.line, runs.settle, runs.operating, ⟨fun _ => response, fun _ => free⟩, runs.frame, runs.times⟩
  | sent => exact count_runs (withRsp_idle_runs runs) _
  | mismatch sending => exact readbackMismatch_runs runs (rsp_ne_idle_of_sending sending)

theorem ended_clc_cfg (ended : Ended e u) : u.clc = e.clc ∧ u.cfg = e.cfg := by
  cases ended <;> simp

end Character

/-! #### The other events of the line -/

section Events
variable {s t : State}

/-- The receiver at the start of a character (R9, R17, R18, R32). -/
def Lrv.starting (l : Lrv) : Lrv :=
  { l with
    charBusy := true
    idle := none
    low := some 0
    skipIdle := l.skipIdle.map fun _ => 0
    mode := if l.mode = .decisionOpen then .deciding else l.mode }

/-- The part at the start of a character, ahead of the idle hold: a response that waits is abandoned and counted
(R138). -/
def startedCharacter (s : State) : State :=
  match s.rsp.state with
  | .waiting _ => count .responseAborts ((s.withLrv s.lrv.starting).withRsp { s.rsp with state := .idle })
  | .idle | .sending _ _ => s.withLrv s.lrv.starting

theorem characterStart_eq (s : State) :
    characterStart s = if (startedCharacter s).idleHolds then loadIdle (startedCharacter s)
      else syncIdle (startedCharacter s) := by
  cases state : s.rsp.state <;> simp only [startedCharacter, characterStart, State.withLrv_rsp, state] <;> rfl

@[simp] theorem startedCharacter_lrv : (startedCharacter s).lrv = s.lrv.starting := by
  unfold startedCharacter
  split <;> simp

theorem Lrv.TimesAt.starting {l : Lrv} (times : l.TimesAt true) (stuck : l.rx ≠ .stuck) :
    l.starting.TimesAt false :=
  ⟨rfl, by simp [Lrv.starting, stuck], by simpa [Lrv.starting, stuck] using times.high,
    Option.isSome_map.trans times.skip, fun h => absurd h stuck⟩

theorem startedCharacter_runs (runs : s.Runs) (high : s.lrx = true) (stuck : s.lrv.rx ≠ .stuck) :
    (startedCharacter (s.withLrx false)).Runs := by
  have times : s.lrv.starting.TimesAt false := (high ▸ runs.times).starting stuck
  have mode : s.lrv.starting.mode = .framed ↔ s.lrv.mode = .framed := by
    simp only [Lrv.starting]
    split <;> simp [*]
  have frame : (s.withLrv s.lrv.starting).FrameAgrees :=
    runs.frame.of_heldFor rfl id fun h => runs.frame.2.2 (mt mode.2 h)
  unfold startedCharacter
  cases state : s.rsp.state with
  | waiting chars =>
    simp only [State.withLrx_rsp, state]
    exact count_runs (e := ((s.withLrx false).withLrv s.lrv.starting).withRsp { s.rsp with state := .idle })
      ⟨runs.line, runs.settle, runs.operating, responseAgrees_of_idle rfl, frame, times⟩ _
  | idle =>
    simp only [State.withLrx_rsp, state]
    exact ⟨runs.line, runs.settle, runs.operating, responseAgrees_of_idle state, frame, times⟩
  | sending chars done =>
    simp only [State.withLrx_rsp, state]
    refine ⟨runs.line, runs.settle, runs.operating, ⟨fun busy => ?_, fun waiting => ?_⟩, frame, times⟩
    · obtain ⟨framed, rx⟩ := runs.response.1 busy
      exact ⟨mode.2 framed, rx⟩
    · exact absurd waiting (by simp [state, RspState.code])

theorem startedCharacter_clc_cfg : (startedCharacter s).clc = s.clc ∧ (startedCharacter s).cfg = s.cfg := by
  unfold startedCharacter
  split <;> simp

theorem characterStart_lineSound (sound : s.LineSound) (line : s.clc.line = .active) (high : s.lrx = true)
    (stuck : s.lrv.rx ≠ .stuck) : (characterStart (s.withLrx false)).LineSound := by
  have runs := startedCharacter_runs (sound.runs line) high stuck
  rw [characterStart_eq]
  split
  · next holds => exact runs.lineSound_loadIdle holds
  · exact sound.sync runs startedCharacter_clc_cfg.1 startedCharacter_clc_cfg.2

theorem settled_runs (rests : s.Rests) : ((s.withClc ⟨.active, none, none⟩).withLrv (.started s.lrx)).Runs where
  line := rfl
  settle := rfl
  operating := by simp [Lrv.started]
  response := responseAgrees_of_idle rests.idle
  frame := frameAgrees_of_holdsNothing rests.nothing fun _ => rfl
  times := .started s.lrx

/-- Entry to STUCK with nothing held. -/
theorem stuck_runs (runs : s.Runs) (nothing : t.HoldsNothing) (rsp : t.ResponseAgrees) (low : s.lrv.low.isSome = true)
    (free : s.lrv.charBusy = false) (clc : t.clc = s.clc) (lrx : t.lrx = s.lrx) {buf : FrameBuffer}
    (lrv : t.lrv = { s.lrv with
      rx := .stuck, mode := .framed, low := none, high := none, skipIdle := none, buffer := buf }) : t.Runs where
  line := by rw [clc]; exact runs.line
  settle := by rw [clc]; exact runs.settle
  operating := by simp [lrv]
  response := rsp
  frame := frameAgrees_of_holdsNothing nothing (by simp [lrv])
  times := by
    have grounded : s.lrx = false := by
      have := runs.times.low
      simp only [low, Bool.true_eq, Bool.and_eq_true] at this
      simpa using this.1
    have quiet := runs.times.idle
    rw [lrx, lrv]
    exact ⟨by simpa [grounded] using quiet, by simp, by simp [grounded], by simp, fun _ => free⟩

theorem stuckEnds_runs (runs : s.Runs) (stuck : s.lrv.rx = .stuck) (high : s.lrv.high.isSome = true) :
    (enterHunt (s.withLrv { s.lrv with idle := some Config.stuckRecovery })).Runs := by
  have raised : s.lrx = true := by
    have := runs.times.high
    simpa [high, stuck] using this
  have free := runs.times.free stuck
  have framed := runs.framed (by simp [stuck])
  have low : s.lrv.low = none := by simpa [stuck] using runs.times.low
  refine ⟨by simpa using runs.line, by simpa using runs.settle, by simp [enterHunt], ?_, ?_, ?_⟩
  · exact ⟨fun _ => ⟨rfl, .inl rfl⟩, fun _ => free⟩
  · exact frameAgrees_of_holdsNothing (by simpa [State.HoldsNothing] using runs.holdsNothing (by simp [stuck])) fun _ => rfl
  · refine ⟨?_, ?_, ?_, rfl, nofun⟩ <;> simp [enterHunt, raised, free, low]

end Events

end Sys2Proof.Machine
end

section
/-! ### Every step keeps the line sound -/

namespace Sys2Proof.Machine

variable {s t : State}

theorem waitEnds_lineSound (sound : s.LineSound) (waiting : s.rsp.state.code = 1)
    (idle : s.lrv.idle.isSome = true) (chars : List Byte) :
    ((s.withRsp { s.rsp with state := .sending chars 0 }).withLrv
      { s.lrv with idle := some Config.responseDelay }).LineSound := by
  have busy : s.rsp.state ≠ .idle := by
    intro rest
    rw [rest] at waiting
    exact absurd waiting (by decide)
  have runs := sound.runs (sound.line_of_rsp busy)
  obtain ⟨framed, rx⟩ := runs.response.1 busy
  refine sound.keepIdle ⟨runs.line, runs.settle, runs.operating, ⟨fun _ => ⟨framed, rx⟩, nofun⟩, runs.frame,
    runs.times.withIdle idle rfl⟩ rfl rfl ?_
  have not_before : s.idleHolds = false := by simp [← Bool.not_eq_true, idleHolds_iff, busy]
  simp [not_before, ← Bool.not_eq_true, idleHolds_iff]

/-- Edges in ACTIVE that start no character (R18, R33, R34). -/
theorem edge_lineSound (sound : s.LineSound) (line : s.clc.line = .active) {level : Bool} {l : Lrv}
    (rx : l.rx = s.lrv.rx) (mode : l.mode = s.lrv.mode) (busy : l.charBusy = s.lrv.charBusy)
    (times : l.TimesAt level) : ((s.withLrx level).withLrv l).LineSound := by
  have runs := sound.runs line
  refine sound.keepIdle ⟨runs.line, runs.settle, by simpa [rx] using runs.operating, ?_, ?_, times⟩ rfl rfl ?_
  · simpa [State.ResponseAgrees, rx, mode, busy] using runs.response
  · exact runs.frame.of_heldFor rfl (by simp [rx]) (by simpa [rx, mode] using runs.frame.2.2)
  · simp [State.idleHolds, rx]

theorem rises_timesAt {l : Lrv} (times : l.TimesAt false) :
    { l with
      low := none
      idle := if l.charBusy then none else some 0
      high := if l.rx = RxState.stuck then some 0 else none }.TimesAt true := by
  refine ⟨?_, rfl, ?_, times.skip, times.free⟩
  · cases l.charBusy <;> rfl
  · by_cases stuck : l.rx = .stuck <;> simp [stuck]

theorem happens_lineSound {k : Cause} (sound : s.LineSound) (happens : Happens s k t) : t.LineSound := by
  cases happens with
  | nothing => exact sound
  | reset => exact (resetBlocks_rests s).lineSound
  | resetEnd | period => exact sound.of_same rfl rfl rfl rfl rfl rfl
  | tick => exact doTick_lineSound sound
  | fallsUnheard _ line =>
    exact ((sound.rests (by rcases line with line | line <;> simp [line])).withLrx false).lineSound
  | wakes _ line =>
    have rests := sound.rests (by simp [line])
    exact (enterRising_rests (s := s.withLrx false) rests.off rests.idle rests.nothing).lineSound
  | fallsInStuck high line stuck =>
    have times := (sound.runs line).times
    exact edge_lineSound sound line rfl rfl rfl
      ⟨rfl, by simpa [stuck] using times.low, rfl, times.skip, times.free⟩
  | fallsInCharacter high line stuck busy =>
    have times := (sound.runs line).times
    exact edge_lineSound sound line rfl rfl rfl
      ⟨by simpa [busy] using times.idle, by simp [stuck], by simpa [stuck] using times.high, times.skip, times.free⟩
  | characterStart high line stuck => exact characterStart_lineSound sound line high stuck
  | risesUnheard _ line => exact ((sound.rests line).withLrx true).lineSound
  | rises low line => exact edge_lineSound sound line rfl rfl rfl (rises_timesAt (low ▸ (sound.runs line).times))
  | settled line =>
    have rests := sound.rests (by simp [line])
    exact (settled_runs rests).lineSound_syncIdle ⟨by simp, by simp⟩
  | preamble hunt deciding level =>
    have runs := sound.runs (sound.line_of_rx (by simp [hunt]))
    have noted := noteLevel_runs (level := level) runs (by simp [hunt])
    have idle := runs.rsp_idle (.inl (by simp [deciding]))
    refine sound.sync ⟨noted.line, noted.settle, noted.operating, responseAgrees_of_idle idle, ?_,
      noted.times.withMode _⟩ rfl rfl
    exact noted.frame.of_heldFor rfl id fun _ => hunt
  | delimiter hunt unframed level =>
    have runs := sound.runs (sound.line_of_rx (by simp [hunt]))
    have idle := runs.rsp_idle (.inl unframed)
    exact sound.sync (enterHeader_runs (withCharBusy_runs runs level (by simp [hunt])) hunt idle) rfl rfl
  | missedRising hunt unframed level =>
    have runs := sound.runs (sound.line_of_rx (by simp [hunt]))
    have idle := runs.rsp_idle (.inl unframed)
    have noted := noteLevel_runs (level := level) runs (by simp [hunt])
    exact sound.sync (count_runs (enterSkip_runs noted (by simp [hunt]) idle) _) (by simp) (by simp)
  | watchEnds hunt idle =>
    have runs := sound.runs (sound.line_of_rx (by simp [hunt]))
    refine sound.keepIdle ⟨runs.line, runs.settle, runs.operating, ⟨fun _ => ⟨rfl, .inl hunt⟩, runs.response.2⟩,
      ?_,
      (runs.times.withIdle (idle := some Config.frameGap) idle rfl).withMode _⟩ rfl rfl rfl
    exact runs.frame.of_heldFor rfl id fun mode => absurd rfl mode
  | character busy level ended =>
    obtain ⟨runs, not_waiting⟩ := endCharacter_runs (level := level) (sound.runs (sound.line_of_busy busy)) busy
    obtain ⟨clc, cfg⟩ := ended_clc_cfg ended
    exact sound.sync (ended_runs runs rfl not_waiting ended) (by simp [clc]) (by simp [cfg])
  | truncated frame idle =>
    have runs := sound.runs (sound.line_of_rx (by rcases frame with rx | rx <;> simp [rx]))
    have waited : (s.withLrv { s.lrv with idle := some Config.frameGap }).Runs :=
      ⟨runs.line, runs.settle, runs.operating, runs.response, runs.frame, runs.times.withIdle idle rfl⟩
    exact sound.sync (loseToSkip_runs waited frame _) (by simp) (by simp)
  | skipEnds skip idle =>
    have runs := sound.runs (sound.line_of_rx (by simp [skip]))
    have rest := runs.rsp_idle (.inr (by simp [skip]))
    have nothing := runs.holdsNothing (by simp [skip])
    have high : s.lrv.high = none := by simpa [skip] using runs.times.high
    have later := runs.times.withIdle (idle := s.lrv.idle.map (· + Config.frameGap)) idle (by simpa using idle)
    have times := later.entered (by simp [skip]) (.inl rfl) .framed
      s.lrv.buffer
    refine sound.sync ⟨by simpa using runs.line, by simpa using runs.settle, by simp [enterHunt],
      responseAgrees_of_idle (by simpa using rest), frameAgrees_of_holdsNothing nothing fun _ => rfl, ?_⟩
      (by simp) (by simp)
    simpa [enterHunt, high] using times
  | stuckInFrame line frame low free =>
    have runs := sound.runs line
    have rest := runs.rsp_idle (.inr (by rcases frame with rx | rx <;> simp [rx]))
    refine sound.sync (stuck_runs runs (loseFrame_holdsNothing s) (responseAgrees_of_idle ?_) low free ?_ ?_
      (buf := .empty) ?_) ?_ ?_ <;> simp [rest]
  | stuck line no_frame low free =>
    have runs := sound.runs line
    refine sound.sync (stuck_runs runs (runs.holdsNothing no_frame.2) ?_ low free rfl rfl rfl) rfl rfl
    exact ⟨fun _ => ⟨rfl, .inr rfl⟩, fun _ => free⟩
  | stuckEnds stuck high =>
    have runs := sound.runs (sound.line_of_rx (by simp [stuck]))
    exact sound.sync (raise_runs (stuckEnds_runs runs stuck high) _) (by simp) (by simp)
  | waitEnds waiting _ idle chars => exact waitEnds_lineSound sound waiting idle chars
  | echoMissing sending =>
    have busy := rsp_ne_idle_of_sending sending
    exact sound.sync (readbackMismatch_runs (sound.runs (sound.line_of_rsp busy)) busy) (by simp) (by simp)
  | classification =>
    by_cases line : s.clc.line = .active
    · exact sound.keepIdle (finishClassification_runs (sound.runs line)) (by simp) (by simp)
        (by simp [State.idleHolds])
    · rwa [finishClassification_of_none (sound.rests line).nothing.2.1]
  | copy => exact sound.of_same (by simp [State.heldFor, copyDone_lvs]) (by simp) (by simp) (by simp) (by simp) (by simp)
  | clear => exact sound.of_same (by simp [State.heldFor]) (by simp) (by simp) (by simp) (by simp) (by simp)
  | written _ w => exact (written_lineSound sound w).of_same rfl rfl rfl rfl rfl rfl
  | read reads => exact completeRead_lineSound sound reads
  | select => rw [selectPort_eq]; exact sound.of_same rfl rfl rfl rfl rfl rfl
  | deselect => rw [deselectPort_eq]; exact sound.of_same rfl rfl rfl rfl rfl rfl
  | commandByte => rw [commandLoaded_eq]; exact sound.of_same rfl rfl rfl rfl rfl rfl
  | arrivals => rw [noteArrivals_eq]; exact sound.of_same rfl rfl rfl rfl rfl rfl

/-- Settles O54: at rest the line's own operations keep everything at rest, and in ACTIVE each event ends in a
state that runs, with the idle hold brought into agreement after it. -/
theorem stepKeepsTheLineSound : Obligations.StepKeepsTheLineSound := by
  intro s t sound next
  exact step_keeps (fun s rest sound => sound.of_same rfl rfl rfl rfl rfl rfl) happens_lineSound sound next

end Sys2Proof.Machine
end

section
/-! ### A command in flight has something to wait for (R52, R77, R124, R175, R179) -/

namespace Sys2Proof.Machine

/-! #### Idle, and events that take nothing away from a command that waits -/

section Waits
variable {s t u e : State}

theorem commandWaits_of_idle (idle : t.cmu.inFlight = none) (snap : t.lvs.snap = none) : t.CommandWaits :=
  ⟨by simp [idle], by simp [snap]⟩

theorem State.CommandWaits.snap_of_ne (waits : s.CommandWaits) {f : InFlight} (busy : s.cmu.inFlight = some f)
    (ne : f.cmd ≠ .snapshotSlot) : s.lvs.snap = none := by
  by_contra snap
  have cmd := waits.2 snap
  rw [busy] at cmd
  exact ne (Option.some.inj cmd)

theorem State.CommandWaits.snap_of_idle (waits : s.CommandWaits) (idle : s.cmu.inFlight = none) :
    s.lvs.snap = none := by
  by_contra snap
  have cmd := waits.2 snap
  simp [idle] at cmd

/-- What a command waits for is still there. -/
theorem State.CommandWaits.of_same (waits : s.CommandWaits) (inFlight : t.cmu.inFlight = s.cmu.inFlight)
    (snap : t.lvs.snap = s.lvs.snap) (inHand : s.srt.inHand ≠ none → t.srt.inHand ≠ none)
    (job : s.acf.job ≠ none → t.acf.job ≠ none) (dormant : s.clc.line = .dormant → t.clc.line = .dormant) :
    t.CommandWaits := by
  refine ⟨fun f busy => ?_, by rw [snap, inFlight]; exact waits.2⟩
  rw [inFlight] at busy
  obtain ⟨source, held⟩ | ⟨entry, running⟩ | ⟨slot, copying⟩ | ⟨soft, line⟩ := waits.1 f busy
  · exact .inl ⟨source, inHand held⟩
  · exact .inr (.inl ⟨entry, job running⟩)
  · exact .inr (.inr (.inl ⟨slot, by rwa [snap]⟩))
  · exact .inr (.inr (.inr ⟨soft, dormant line⟩))

@[simp] theorem syncIdle_line : (syncIdle s).clc.line = s.clc.line := by
  unfold syncIdle
  split
  · split <;> rfl
  · rfl

theorem State.CommandWaits.sync (waits : t.CommandWaits) : (syncIdle t).CommandWaits :=
  waits.of_same (by simp) (by simp) (by simp) (by simp) (by simp)

end Waits

/-! #### Turns: the command that waited completes, any other goes on waiting for what it waited for -/

section Turns
variable {s t : State}

theorem ne_snapshotSlot_of_isEntry {c : Cmd} (entry : c.isEntry = true) : c ≠ .snapshotSlot := by
  rintro rfl
  cases entry

theorem ne_snapshotSlot_of_isSource {c : Cmd} (source : c.isSource = true) : c ≠ .snapshotSlot := by
  rintro rfl
  cases source

theorem entryRun_cmu (left : Acf) :
    (s.entryRun left).2.inFlight = none ∧ s.entryWaits = true ∨
      (s.entryRun left).2 = s.cmu ∧ s.entryWaits = false := by
  unfold State.entryRun State.entryWaits
  cases busy : s.cmu.inFlight with
  | none => exact .inr ⟨rfl, rfl⟩
  | some f => cases entry : f.cmd.isEntry <;> simp [Cmu.ended, entry]

theorem sourceRun_cmu (left : Srt) :
    (s.sourceRun left).2.inFlight = none ∧ s.sourceWaits = true ∨
      (s.sourceRun left).2 = s.cmu ∧ s.sourceWaits = false := by
  unfold State.sourceRun State.sourceWaits
  cases busy : s.cmu.inFlight with
  | none => exact .inr ⟨rfl, rfl⟩
  | some f => cases source : f.cmd.isSource <;> simp [Cmu.ended, source]

theorem entryWaits_iff : s.entryWaits = true ↔ ∃ f, s.cmu.inFlight = some f ∧ f.cmd.isEntry = true := by
  unfold State.entryWaits
  cases s.cmu.inFlight <;> simp

theorem sourceWaits_iff : s.sourceWaits = true ↔ ∃ f, s.cmu.inFlight = some f ∧ f.cmd.isSource = true := by
  unfold State.sourceWaits
  cases s.cmu.inFlight <;> simp

theorem State.CommandWaits.snap_of_entryWaits (waits : s.CommandWaits) (entry : s.entryWaits = true) :
    s.lvs.snap = none := by
  obtain ⟨f, busy, entry⟩ := entryWaits_iff.1 entry
  exact waits.snap_of_ne busy (ne_snapshotSlot_of_isEntry entry)

theorem State.CommandWaits.snap_of_sourceWaits (waits : s.CommandWaits) (source : s.sourceWaits = true) :
    s.lvs.snap = none := by
  obtain ⟨f, busy, source⟩ := sourceWaits_iff.1 source
  exact waits.snap_of_ne busy (ne_snapshotSlot_of_isSource source)

/-- A classification ends: an entry command that waited has completed. -/
theorem State.CommandWaits.of_entryRun (waits : s.CommandWaits) {left : Acf} (cmu : t.cmu = (s.entryRun left).2)
    (snap : t.lvs.snap = s.lvs.snap) (inHand : t.srt.inHand = s.srt.inHand) (clc : t.clc = s.clc) :
    t.CommandWaits := by
  obtain ⟨done, entry⟩ | ⟨same, entry⟩ := entryRun_cmu (s := s) left
  · exact commandWaits_of_idle (by rw [cmu, done]) (by rw [snap, waits.snap_of_entryWaits entry])
  · refine ⟨fun f busy => ?_, by rw [snap, cmu, same]; exact waits.2⟩
    rw [cmu, same] at busy
    obtain source | waiting | copying | soft := waits.1 f busy
    · exact .inl (by rwa [inHand])
    · have : s.entryWaits = true := entryWaits_iff.2 ⟨f, busy, waiting.1⟩
      simp [entry] at this
    · exact .inr (.inr (.inl (by rwa [snap])))
    · exact .inr (.inr (.inr (by rwa [clc])))

/-- A frame ends: a source command that waited has completed, and no classification was in flight. -/
theorem State.CommandWaits.of_sourceRun (waits : s.CommandWaits) {left : Srt} (cmu : t.cmu = (s.sourceRun left).2)
    (snap : t.lvs.snap = s.lvs.snap) (job : s.acf.job = none) (clc : t.clc = s.clc) : t.CommandWaits := by
  obtain ⟨done, source⟩ | ⟨same, source⟩ := sourceRun_cmu (s := s) left
  · exact commandWaits_of_idle (by rw [cmu, done]) (by rw [snap, waits.snap_of_sourceWaits source])
  · refine ⟨fun f busy => ?_, by rw [snap, cmu, same]; exact waits.2⟩
    rw [cmu, same] at busy
    obtain waiting | entry | copying | soft := waits.1 f busy
    · have : s.sourceWaits = true := sourceWaits_iff.2 ⟨f, busy, waiting.1⟩
      simp [source] at this
    · exact absurd job entry.2
    · exact .inr (.inr (.inl (by rwa [snap])))
    · exact .inr (.inr (.inr (by rwa [clc])))

@[simp] theorem finishClassification_snap : (finishClassification s).lvs.snap = s.lvs.snap := by
  cases job : s.acf.job with
  | none => rw [finishClassification_of_none job]
  | some j => rw [finishClassification_eq job]

theorem finishClassification_commandWaits (waits : s.CommandWaits) : (finishClassification s).CommandWaits := by
  cases job : s.acf.job with
  | none => rwa [finishClassification_of_none job]
  | some j =>
    exact waits.of_entryRun (by rw [finishClassification_eq job]) (by simp) (by simp) (by simp)

theorem loseFrame_commandWaits (waits : s.CommandWaits) : (loseFrame s).CommandWaits :=
  (finishClassification_commandWaits waits).of_sourceRun loseFrame_cmu (by simp) finishClassification_job (by simp)

@[simp] theorem Lvs.update_snap (n : Nat) (c : SlotContent) (l : Lvs) : (l.update n c).snap = l.snap := by
  unfold Lvs.update
  split <;> rfl

@[simp] theorem Lvs.commit_snap (c : SlotContent) (l : Lvs) : (l.commit c).snap = l.snap := by
  unfold Lvs.commit
  split
  · rfl
  · exact Lvs.update_snap _ _ _

theorem commitFrame_commandWaits (waits : s.CommandWaits) (job : s.acf.job = none) : (commitFrame s).CommandWaits :=
  waits.of_sourceRun commitFrame_cmu (by simp) job (by simp)

end Turns

/-! #### The events -/

section Events
variable {s t u e : State} {cmd : Cmd}

theorem loseToSkip_commandWaits (waits : s.CommandWaits) (k : Counter) : (loseToSkip k s).CommandWaits := by
  have counted : (count k s).CommandWaits := waits.of_same (by simp) (by simp) (by simp) (by simp) (by simp)
  exact (loseFrame_commandWaits counted).of_same (by simp [loseToSkip]) (by simp [loseToSkip]) (by simp [loseToSkip])
    (by simp [loseToSkip]) (by simp [loseToSkip])

theorem ended_commandWaits (runs : e.Runs) (waits : e.CommandWaits) (ended : Ended e u) : u.CommandWaits := by
  cases ended with
  | goodHeader header buf h =>
    obtain ⟨inHand, job, -⟩ := runs.holdsNothing (by simp [header])
    exact waits.of_same (by simp) (by simp) (fun held => absurd inHand held) (fun running => absurd job running)
      (by simp)
  | framingError => exact loseToSkip_commandWaits waits _
  | framingErrorLate => exact loseToSkip_commandWaits (finishClassification_commandWaits waits) _
  | bodyByte => exact finishClassification_commandWaits waits
  | commit => exact commitFrame_commandWaits (finishClassification_commandWaits waits) finishClassification_job
  | checkError _ buf =>
    have counted : (count .checkErrors
        ((finishClassification e).withLrv { e.lrv with buffer := buf })).CommandWaits :=
      (finishClassification_commandWaits waits).of_same (by simp) (by simp) (by simp) (by simp) (by simp)
    exact (loseFrame_commandWaits counted).of_same (by simp) (by simp) (by simp) (by simp) (by simp)
  | _ => exact waits.of_same (by simp) (by simp) (by simp) (by simp) (by simp)

/-- A command taken either has completed or waits for what its owner needs. -/
theorem owned_commandWaits (snap : s.lvs.snap = none) (owned : Owned s cmd t) : t.CommandWaits := by
  cases owned with
  | sourceWaits source inHand =>
    refine ⟨fun f busy => .inl ?_, fun copying => absurd snap copying⟩
    cases busy
    exact ⟨source, inHand⟩
  | entryWaits entry job =>
    refine ⟨fun f busy => .inr (.inl ?_), fun copying => absurd snap copying⟩
    cases busy
    exact ⟨entry, job⟩
  | snapshot =>
    refine ⟨fun f busy => .inr (.inr (.inl ?_)), fun _ => rfl⟩
    cases busy
    exact ⟨rfl, nofun⟩
  | stops => exact commandWaits_of_idle rfl snap
  | startsListen => exact commandWaits_of_idle rfl (by simpa using snap)
  | _ => exact commandWaits_of_idle rfl snap

theorem takeSoftReset_line : (takeSoftReset s).clc.line = .dormant := rfl

theorem takeSoftReset_commandWaits (s : State) : (takeSoftReset s).CommandWaits := by
  refine ⟨fun f busy => .inr (.inr (.inr ⟨?_, takeSoftReset_line⟩)), fun copying => absurd rfl copying⟩
  rw [takeSoftReset_cmu] at busy
  have cmd := Cmu.takeSoftReset_cmd s.cmu
  rw [busy] at cmd
  exact Option.some.inj cmd

theorem written_commandWaits (waits : s.CommandWaits) (written : Written s t) : t.CommandWaits := by
  cases written with
  | taken idle owned => exact owned_commandWaits (waits.snap_of_idle idle) owned
  | softReset => exact takeSoftReset_commandWaits s
  | unknown code idle => exact commandWaits_of_idle rfl (waits.snap_of_idle idle)
  | commandUnit c same => exact waits.of_same same rfl id id id
  | _ => exact waits.of_same rfl rfl id id id

theorem tickIdle_dormant (dormant : s.clc.line = .dormant) : (tickIdle s).clc.line = .dormant := by
  have stopped : s.idleHolds = false := by simp [← Bool.not_eq_true, idleHolds_iff, dormant]
  unfold tickIdle
  split
  · exact dormant
  · simp [stopped, dormant]

@[simp] theorem tickSlots_snap : (tickSlots s).lvs.snap = s.lvs.snap := by
  unfold tickSlots
  dsimp only
  split <;> rfl

theorem doTick_dormant (dormant : s.clc.line = .dormant) : (doTick s).clc.line = .dormant :=
  tickIdle_dormant (by simpa using dormant)

theorem doTick_snap : (doTick s).lvs.snap = s.lvs.snap := by simp [doTick]

theorem Lvs.endCopy_snap (l : Lvs) : l.endCopy.snap = none := by
  unfold Lvs.endCopy
  split
  · next none => exact none
  · rfl

theorem copyDone_commandWaits (snap : s.lvs.snap.isSome = true) : (copyDone s).CommandWaits := by
  simp only [copyDone, snap, if_true]
  refine commandWaits_of_idle (complete_inFlight _ _) ?_
  split <;> simp [Lvs.endCopy_snap]

theorem characterStart_line : (characterStart s).clc.line = s.clc.line := by
  rw [characterStart_eq]
  split <;> simp [loadIdle, startedCharacter_clc_cfg.1]

theorem enterRising_commandWaits (waits : s.CommandWaits) (line : s.clc.line ≠ .dormant) :
    (enterRising s).CommandWaits :=
  waits.of_same rfl rfl id id fun dormant => absurd dormant line

theorem happens_commandWaits {k : Cause} (sound : s.LineSound) (waits : s.CommandWaits) (happens : Happens s k t) :
    t.CommandWaits := by
  cases happens with
  | reset => exact commandWaits_of_idle rfl rfl
  | tick => exact waits.of_same (by simp) doTick_snap (by simp) (by simp) doTick_dormant
  | wakes _ line => exact enterRising_commandWaits (s := s.withLrx false) waits (by simp [line])
  | characterStart =>
    exact waits.of_same (by simp) (by simp) (by simp) (by simp) (by simp [characterStart_line])
  | settled line => exact waits.of_same (by simp) (by simp) (by simp) (by simp) (by simp [line])
  | character busy level ended =>
    have runs := (endCharacter_runs (level := level) (sound.runs (sound.line_of_busy busy)) busy).1
    exact (ended_commandWaits runs (waits.of_same (by simp) (by simp) (by simp) (by simp) (by simp)) ended).sync
  | truncated =>
    have waited : (s.withLrv { s.lrv with idle := some Config.frameGap }).CommandWaits := waits
    exact (loseToSkip_commandWaits waited _).sync
  | stuckInFrame =>
    exact (loseFrame_commandWaits waits).of_same (by simp) (by simp) (by simp) (by simp) (by simp)
  | classification => exact finishClassification_commandWaits waits
  | copy snap => exact copyDone_commandWaits snap
  | clear busy soft =>
    exact commandWaits_of_idle (complete_inFlight _ _) (by simpa using waits.snap_of_ne busy (by simp [soft]))
  | written _ w => exact (written_commandWaits waits w).of_same rfl rfl id id id
  | read reads =>
    rw [completeRead_of_read s reads]
    refine waits.of_same (by simp) ?_ (by simp) (by simp) (by simp)
    rw [State.withSpi_lvs, (applyLoad_keeps s _).2.1]
  | select => rw [selectPort_eq]; exact waits
  | deselect => rw [deselectPort_eq]; exact waits
  | commandByte => rw [commandLoaded_eq]; exact waits
  | arrivals => rw [noteArrivals_eq]; exact waits
  | _ => exact waits.of_same (by simp) (by simp) (by simp) (by simp) (by simp)

end Events

/-- Settles O55: a relation in hand or a classification ends together with the turn of the command that waits for
it, a copy and a clear end their command, and DORMANT is left by START LINE only, taken with no command in
flight. -/
theorem stepKeepsCommandsWaiting : Obligations.StepKeepsCommandsWaiting := by
  intro s t sound waits next
  obtain ⟨rest, _, happens⟩ := step_happens next
  have queued : (s.withPending rest).LineSound := sound.of_same rfl rfl rfl rfl rfl rfl
  exact happens_commandWaits queued waits happens

end Sys2Proof.Machine
end

section
/-! ### The slots and the tables along a step (R40, R60, R64, R113) -/

namespace Sys2Proof.Machine

/-! #### What a step can do to the store -/

/-- The stores that an event can leave of a store; a snapshot is taken only where `idle` holds. -/
inductive LvsAfter (l : Lvs) (idle : Prop) : Lvs → Prop
  | held (h : Option Nat) : LvsAfter l idle { l with held := h }
  | committed (h : Option Nat) (c : SlotContent) : LvsAfter l idle (Lvs.commit c { l with held := h })
  | ticked : LvsAfter l idle l.tick
  | snapshot (n : Nat) (slot : n < Config.slotCount) (free : idle) : LvsAfter l idle (l.takeSnapshot n)
  | watch (n maxAge : Nat) : LvsAfter l idle (l.setWatch n maxAge)
  | copied : LvsAfter l idle l.endCopy
  | softReset : LvsAfter l idle l.softReset
  | reset : LvsAfter l idle State.reset.lvs
  | captured (fresh stale : BitVec 16) : LvsAfter l idle { l with capFresh := fresh, capStale := stale }
  | moved : LvsAfter l idle { l with readPos := advancePos l.readPos }

section Store
variable {s t u e : State} {cmd : Cmd}

theorem LvsAfter.of_eq {l l' : Lvs} {idle : Prop} (same : l' = l) : LvsAfter l idle l' := by
  rw [same]
  exact .held l.held

@[simp] theorem loseToSkip_lvs (k : Counter) : (loseToSkip k s).lvs = { s.lvs with held := none } := by
  simp [loseToSkip]

@[simp] theorem stopTheLine_lvs : (stopTheLine s).lvs = { s.lvs with held := none } := rfl

@[simp] theorem takeSoftReset_lvs : (takeSoftReset s).lvs = s.lvs.softReset := rfl

@[simp] theorem tickSlots_lvs : (tickSlots s).lvs = s.lvs.tick := by
  unfold tickSlots
  dsimp only
  split <;> rfl

theorem doTick_lvs : (doTick s).lvs = s.lvs.tick := by simp [doTick]

theorem copyDone_lvs_of_snap (snap : s.lvs.snap.isSome = true) : (copyDone s).lvs = s.lvs.endCopy := by
  simp only [copyDone, snap, if_true, complete_frame]
  split <;> rfl

theorem ended_lvs {idle : Prop} (ended : Ended e u) : LvsAfter e.lvs idle u.lvs := by
  cases ended with
  | framingError => rw [loseToSkip_lvs]; exact .held none
  | framingErrorLate => rw [loseToSkip_lvs, finishClassification_lvs]; exact .held none
  | bodyByte => rw [State.withLrv_lvs, finishClassification_lvs]; exact .held _
  | commit => rw [commitFrame_lvs, State.withLrv_lvs, finishClassification_lvs]; exact .committed _ _
  | checkError _ buf =>
    simp only [enterHunt_frame, loseFrame_lvs, count_frame, State.withLrv_lvs]
    rw [finishClassification_lvs]
    exact .held none
  | _ => exact .of_eq (by simp)

theorem owned_lvs {idle : Prop} (free : idle) (owned : Owned s cmd t) : LvsAfter s.lvs idle t.lvs := by
  cases owned with
  | stops => exact .held none
  | snapshot _ slot => exact .snapshot _ slot free
  | watch _ n maxAge => exact .watch n maxAge
  | _ => exact .of_eq (by simp)

theorem written_lvs (written : Written s t) : LvsAfter s.lvs (s.cmu.inFlight = none) t.lvs := by
  cases written with
  | taken idle owned => exact owned_lvs idle owned
  | softReset => exact .softReset
  | _ => exact .held _

theorem completeRead_lvs {l : Load} {idle : Prop} (reads : s.spi.phase = .read l) :
    LvsAfter s.lvs idle (completeRead s).lvs := by
  rw [completeRead_of_read s reads, State.withSpi_lvs]
  cases l.effect with
  | sets => exact .captured _ _
  | nextSlotByte => exact .moved
  | _ => exact .held _

/-- Every event leaves the store as one of the store's own operations does. -/
theorem happens_lvs {k : Cause} (happens : Happens s k t) : LvsAfter s.lvs (s.cmu.inFlight = none) t.lvs := by
  cases happens with
  | reset => exact .reset
  | tick => rw [doTick_lvs]; exact .ticked
  | character _ level ended => simpa using ended_lvs (idle := s.cmu.inFlight = none) ended
  | truncated => simpa using LvsAfter.held none
  | stuckInFrame =>
    simp only [syncIdle_frame, raise_frame, State.withLrv_lvs, loseFrame_lvs]
    exact .held none
  | classification => rw [finishClassification_lvs]; exact .held _
  | copy snap => rw [copyDone_lvs_of_snap snap]; exact .copied
  | written _ w => simpa using written_lvs w
  | read reads => exact completeRead_lvs reads
  | select => rw [selectPort_eq]; exact .held _
  | deselect => rw [deselectPort_eq]; exact .held _
  | commandByte => rw [commandLoaded_eq]; exact .held _
  | arrivals => rw [noteArrivals_eq]; exact .held _
  | _ => exact .of_eq (by simp)

end Store

/-! #### The source table (R40, R41) -/

/-- At most 24 entries, no two with one address (R40). -/
def DistinctSources (t : List SourceEntry) : Prop :=
  t.length ≤ Config.sourceEntries ∧ (t.map (·.addr)).Nodup

section Sources
variable {t t' : List SourceEntry} {a : Byte} {e : SourceEntry}

theorem DistinctSources.sublist (distinct : DistinctSources t) (sub : t'.Sublist t) : DistinctSources t' :=
  ⟨sub.length_le.trans distinct.1, distinct.2.sublist (sub.map _)⟩

/-- A change of the entries that leaves their addresses. -/
theorem DistinctSources.map (distinct : DistinctSources t) (f : SourceEntry → SourceEntry)
    (addr : ∀ e, (f e).addr = e.addr) : DistinctSources (t.map f) := by
  have addrs : (t.map f).map (·.addr) = t.map (·.addr) := by
    rw [List.map_map]
    exact List.map_congr_left fun e _ => addr e
  exact ⟨by simpa using distinct.1, by rw [addrs]; exact distinct.2⟩

theorem sourceEntry_eq_none_iff : sourceEntry t a = none ↔ a ∉ t.map (·.addr) := by
  simp [sourceEntry]

theorem sourceEntry_eq_some (found : sourceEntry t a = some e) : e ∈ t ∧ e.addr = a :=
  ⟨List.mem_of_find?_eq_some found, by simpa using List.find?_some found⟩

theorem map_addr_eraseP (t : List SourceEntry) (a : Byte) :
    (t.eraseP (·.addr == a)).map (·.addr) = (t.map (·.addr)).erase a := by
  rw [List.erase_eq_eraseP', List.eraseP_map]
  rfl

/-- An entry moves to the front, or a changed one with its address. -/
theorem DistinctSources.refresh (distinct : DistinctSources t) (found : sourceEntry t a = some e)
    {e' : SourceEntry} (addr : e'.addr = e.addr) : DistinctSources (e' :: t.eraseP (·.addr == a)) := by
  obtain ⟨mem, at_a⟩ := sourceEntry_eq_some found
  have pos := List.length_pos_of_mem mem
  have length := List.length_eraseP_of_mem (p := (·.addr == a)) mem (by simp [at_a])
  have same_length : t.length - 1 + 1 = t.length := by omega
  refine ⟨by rw [List.length_cons, length, same_length]; exact distinct.1, ?_⟩
  rw [List.map_cons, map_addr_eraseP, addr, at_a, List.nodup_cons]
  exact ⟨distinct.2.not_mem_erase, distinct.2.erase a⟩

theorem evictOne_sublist (t : List SourceEntry) : (evictOne t).Sublist t := by
  simpa [evictOne] using (List.eraseP_sublist (p := (!·.pinned)) (l := t.reverse)).reverse

theorem length_evictOne (unpinned : t.any (!·.pinned) = true) : (evictOne t).length = t.length - 1 := by
  obtain ⟨e, mem, free⟩ := List.any_eq_true.1 unpinned
  rw [evictOne, List.length_reverse, List.length_eraseP_of_mem (List.mem_reverse.2 mem) free, List.length_reverse]

theorem DistinctSources.addEntry (distinct : DistinctSources t) (absent : sourceEntry t e.addr = none) :
    DistinctSources (addEntry e t) := by
  have fresh := sourceEntry_eq_none_iff.1 absent
  unfold Machine.addEntry
  split
  · next room =>
    exact ⟨room, List.nodup_cons.2 ⟨fresh, distinct.2⟩⟩
  · split
    · next unpinned =>
      have rest := distinct.sublist (evictOne_sublist t)
      obtain ⟨v, mem, -⟩ := List.any_eq_true.1 unpinned
      have pos := List.length_pos_of_mem mem
      refine ⟨?_, List.nodup_cons.2 ⟨fun mem => fresh ((evictOne_sublist t).map _ |>.subset mem), rest.2⟩⟩
      have same_length : t.length - 1 + 1 = t.length := by omega
      rw [List.length_cons, length_evictOne unpinned, same_length]
      exact distinct.1
    · exact distinct

theorem DistinctSources.sourceEffect {t : Srt} (distinct : DistinctSources t.table) (c : Cmd) (arg : Byte)
    (stamp : Stamp) : DistinctSources (sourceEffect c arg stamp t).1.table := by
  have setPin : ∀ v, DistinctSources (setPin arg v t.table) := fun v =>
    distinct.map _ fun e => by split <;> rfl
  cases c with
  | pinSource =>
    simp only [Machine.sourceEffect, pinEffect]
    split
    · exact setPin true
    · next absent =>
      split
      · exact distinct.addEntry absent
      · exact distinct
  | unpinSource =>
    simp only [Machine.sourceEffect, unpinEffect]
    split
    · exact setPin false
    · exact distinct
  | forgetSource =>
    simp only [Machine.sourceEffect, forgetEffect]
    split
    · exact distinct.sublist List.eraseP_sublist
    · exact distinct
  | forgetUnpinned => exact distinct.sublist List.filter_sublist
  | readSource => simp only [Machine.sourceEffect, readSourceEffect]; split <;> exact distinct
  | _ => exact distinct

theorem DistinctSources.commit {t : Srt} (distinct : DistinctSources t.table) (v : Option Verdict) (stamp : Stamp) :
    DistinctSources (t.commit v stamp).table := by
  unfold Srt.commit
  split
  · exact distinct
  · next r _ =>
    simp only [commitTable]
    split
    · exact distinct
    · split
      · next e found => exact distinct.refresh found rfl
      · next absent => exact distinct.addEntry absent

theorem DistinctSources.softReset {t : Srt} (distinct : DistinctSources t.table) :
    DistinctSources t.softReset.table :=
  (distinct.sublist List.filter_sublist).map _ fun _ => rfl

theorem DistinctSources.sourceRun {s : State} {left : Srt} (distinct : DistinctSources left.table) :
    DistinctSources (s.sourceRun left).1.table := by
  unfold State.sourceRun
  split
  · exact distinct
  · split
    · exact distinct.sourceEffect _ _ _
    · exact distinct

end Sources

end Sys2Proof.Machine
end

section
/-! ### The tables keep their sizes, and the sources differ (R40, R60, R64, R113) -/

namespace Sys2Proof.Machine

/-! #### The acceptance filter -/

/-- The sizes of the filter's tables. -/
def Acf.sizes (a : Acf) : Nat × Nat := (a.table.length, a.hash.length)

section Filter
variable {s t u e : State} {cmd : Cmd}

theorem Acf.noteRewritten_sizes (n : Nat) (a : Acf) : (a.noteRewritten n).sizes = a.sizes := by
  unfold Acf.noteRewritten
  split
  · rfl
  · split <;> rfl

@[simp] theorem entryEffect_sizes (c : Cmd) (arg : Byte) (a : Acf) : (entryEffect c arg a).1.sizes = a.sizes := by
  cases c with
  | commitEntry =>
    simp only [entryEffect, commitEffect]
    split
    · rw [Acf.noteRewritten_sizes]; simp [Acf.sizes]
    · rfl
  | clearEntry =>
    simp only [entryEffect, clearEffect]
    split
    · rfl
    · rw [Acf.noteRewritten_sizes]; simp [Acf.sizes]
  | readEntry => simp only [entryEffect, readEffect]; split <;> rfl
  | _ => rfl

theorem addHit_length (n : Nat) (table : List AcfEntry) : (addHit n table).length = table.length := by
  unfold addHit
  split <;> simp

@[simp] theorem Acf.commit_sizes (a : Acf) : a.commit.sizes = a.sizes := by
  unfold Acf.commit
  split
  · rfl
  · dsimp only
    split <;> simp [Acf.sizes, addHit_length]

@[simp] theorem Acf.softReset_sizes (a : Acf) : a.softReset.sizes = a.sizes := by simp [Acf.softReset, Acf.sizes]

@[simp] theorem finishClassification_sizes : (finishClassification s).acf.sizes = s.acf.sizes := by
  cases job : s.acf.job with
  | none => rw [finishClassification_of_none job]
  | some j =>
    rw [finishClassification_eq job]
    exact entryRun_keeps Acf.sizes entryEffect_sizes _

theorem takeSoftReset_acf : (takeSoftReset s).acf = s.acf.softReset := rfl

theorem stopTheLine_acf : (stopTheLine s).acf = { s.acf with job := none, held := none } := rfl

theorem abandoned_sizes (a : Acf) : { a with job := none, held := none }.sizes = a.sizes := rfl

@[simp] theorem loseToSkip_sizes (k : Counter) : (loseToSkip k s).acf.sizes = s.acf.sizes := by
  simp [loseToSkip, abandoned_sizes]

theorem handOn_sizes (h : Header) : (handOn h s).acf.sizes = s.acf.sizes := by
  unfold handOn
  dsimp only
  repeat' split
  all_goals rfl

theorem ended_sizes (ended : Ended e u) : u.acf.sizes = e.acf.sizes := by
  cases ended with
  | goodHeader => simp [handOn_sizes]
  | checkError => simp [abandoned_sizes]
  | _ => simp

theorem owned_sizes (owned : Owned s cmd t) : t.acf.sizes = s.acf.sizes := by
  cases owned with
  | stops => simp [stopTheLine_acf, abandoned_sizes]
  | _ => simp

theorem written_sizes (written : Written s t) : t.acf.sizes = s.acf.sizes := by
  cases written with
  | taken _ owned => exact owned_sizes owned
  | softReset => rw [takeSoftReset_acf, Acf.softReset_sizes]
  | hash => simp [Acf.sizes]
  | pendingClear => simp [clearPending]
  | watermark => simp [writeWatermark]
  | staging => simp [Acf.sizes]
  | _ => simp

theorem happens_sizes {k : Cause} (happens : Happens s k t) : t.acf.sizes = s.acf.sizes ∨ t.acf = State.reset.acf := by
  cases happens with
  | reset => exact .inr rfl
  | character _ level ended => exact .inl (by simpa using ended_sizes ended)
  | stuckInFrame => exact .inl (by simp [abandoned_sizes])
  | written _ w => exact .inl (by simpa using written_sizes w)
  | select => rw [selectPort_eq]; exact .inl rfl
  | deselect => rw [deselectPort_eq]; exact .inl rfl
  | commandByte => rw [commandLoaded_eq]; exact .inl rfl
  | arrivals => rw [noteArrivals_eq]; exact .inl rfl
  | _ => exact .inl (by simp)

end Filter

/-! #### The slots -/

theorem Lvs.length_setSlot (n : Nat) (sl : Slot) (l : Lvs) : (l.setSlot n sl).slots.length = l.slots.length := by
  simp [Lvs.setSlot]

theorem Lvs.length_commit (c : SlotContent) (l : Lvs) : (l.commit c).slots.length = l.slots.length := by
  unfold Lvs.commit Lvs.update
  split
  · rfl
  · split <;> exact Lvs.length_setSlot _ _ l

theorem Lvs.length_endCopy (l : Lvs) : l.endCopy.slots.length = l.slots.length := by
  unfold Lvs.endCopy
  split
  · rfl
  · dsimp only
    split <;> simp

theorem LvsAfter.length {l l' : Lvs} {idle : Prop} (after : LvsAfter l idle l') (sized : l.slots.length = 16) :
    l'.slots.length = 16 := by
  cases after with
  | held | captured | moved => exact sized
  | committed => rwa [Lvs.length_commit]
  | ticked => simpa [Lvs.tick] using sized
  | snapshot => simpa [Lvs.takeSnapshot] using sized
  | watch n maxAge => rwa [Lvs.setWatch, Lvs.length_setSlot]
  | copied => rwa [Lvs.length_endCopy]
  | softReset => simpa [Lvs.softReset] using sized
  | reset => exact List.length_replicate

/-! #### The source table -/

section Sources
variable {s t u e : State} {cmd : Cmd}

theorem stopTheLine_srt : (stopTheLine s).srt = { s.srt with inHand := none } := rfl

theorem takeSoftReset_srt : (takeSoftReset s).srt = s.srt.softReset := rfl

theorem loseFrame_sources (distinct : DistinctSources s.srt.table) : DistinctSources (loseFrame s).srt.table := by
  rw [loseFrame_srt]
  exact DistinctSources.sourceRun distinct

theorem commitFrame_sources (distinct : DistinctSources s.srt.table) :
    DistinctSources (commitFrame s).srt.table := by
  rw [commitFrame_srt]
  exact DistinctSources.sourceRun (distinct.commit _ _)

theorem handOn_table (h : Header) : (handOn h s).srt.table = s.srt.table := by
  unfold handOn
  dsimp only
  repeat' split
  all_goals rfl

theorem enterSkip_srt (s : State) : (enterSkip s).srt = s.srt := by simp

theorem enterHunt_srt (s : State) : (enterHunt s).srt = s.srt := by simp

theorem syncIdle_srt (s : State) : (syncIdle s).srt = s.srt := by simp

theorem loseToSkip_sources (k : Counter) (distinct : DistinctSources s.srt.table) :
    DistinctSources (loseToSkip k s).srt.table := by
  rw [loseToSkip, enterSkip_srt]
  exact loseFrame_sources (by simpa using distinct)

theorem ended_sources (distinct : DistinctSources e.srt.table) (ended : Ended e u) :
    DistinctSources u.srt.table := by
  cases ended with
  | goodHeader => simpa [handOn_table] using distinct
  | framingError => exact loseToSkip_sources _ distinct
  | framingErrorLate => exact loseToSkip_sources _ (by simpa using distinct)
  | commit => exact commitFrame_sources (by simpa using distinct)
  | checkError =>
    rw [enterHunt_srt]
    exact loseFrame_sources (by simpa using distinct)
  | _ => simpa using distinct

theorem written_sources (distinct : DistinctSources s.srt.table) (written : Written s t) :
    DistinctSources t.srt.table := by
  cases written with
  | taken _ owned =>
    cases owned with
    | source => simpa using distinct.sourceEffect _ _ _
    | stops => simpa [stopTheLine_srt] using distinct
    | _ => simpa using distinct
  | softReset => rw [takeSoftReset_srt]; exact distinct.softReset
  | pendingClear => simpa [clearPending] using distinct
  | watermark => simpa [writeWatermark] using distinct
  | _ => simpa using distinct

theorem happens_sources {k : Cause} (distinct : DistinctSources s.srt.table) (happens : Happens s k t) :
    DistinctSources t.srt.table := by
  cases happens with
  | reset => exact ⟨Nat.zero_le _, List.nodup_nil⟩
  | character _ level ended => simpa using ended_sources (by simpa using distinct) ended
  | truncated =>
    rw [syncIdle_srt]
    exact loseToSkip_sources _ distinct
  | stuckInFrame => simpa using loseFrame_sources distinct
  | written _ w => simpa using written_sources distinct w
  | select => rw [selectPort_eq]; exact distinct
  | deselect => rw [deselectPort_eq]; exact distinct
  | commandByte => rw [commandLoaded_eq]; exact distinct
  | arrivals => rw [noteArrivals_eq]; exact distinct
  | _ => simpa using distinct

end Sources

/-- The tables after an event. -/
theorem happens_tables {s t : State} {k : Cause} (sized : s.TablesSized) (distinct : s.SourcesDistinct)
    (happens : Happens s k t) :
    t.TablesSized ∧ t.SourcesDistinct := by
  obtain ⟨table, hash, slots⟩ := sized
  have acf : t.acf.table.length = 32 ∧ t.acf.hash.length = 64 := by
    obtain same | reset := happens_sizes happens
    · obtain ⟨table', hash'⟩ := Prod.mk.inj same
      exact ⟨table'.trans table, hash'.trans hash⟩
    · rw [reset]
      exact ⟨List.length_replicate, List.length_replicate⟩
  exact ⟨⟨acf.1, acf.2, (happens_lvs happens).length slots⟩, happens_sources distinct happens⟩

theorem stepKeepsTables : Claim.StepKeepsTables := by
  intro s t sized distinct next
  obtain ⟨rest, _, happens⟩ := step_happens next
  exact happens_tables (s := s.withPending rest) sized distinct happens

end Sys2Proof.Machine
end

section
/-! ### The notification unit and the counters along an event -/

namespace Sys2Proof.Machine

/-! #### What an event can do to the notification unit (chapter 8) -/

/-- The notification units that an event can leave of one, where the queue holds this many records. -/
inductive NwcAfter (n : Nwc) (records : Nat) : Cause → Nwc → Prop
  | raised {k : Cause} {n' : Nwc} (raised : n.Raised n') : NwcAfter n records k n'
  | committed {a n' : Nwc} (urgent : Bool) (before : n.Raised a) (after : (a.recordCommit urgent).Raised n') :
      NwcAfter n records .other n'
  | ticked {a : Nwc} (before : n.Raised a) : NwcAfter n records .other a.tick
  | captured (u : Nat) : NwcAfter n records .other { n with mitCapture := u }
  | reset : NwcAfter n records .reset State.reset.nwc
  | flushed {n' : Nwc} (after : n.flushed.Raised n') : NwcAfter n records .write n'
  | sleeps {n' : Nwc} (after : n.sleep.Raised n') : NwcAfter n records .write n'
  | wakes {n' : Nwc} (after : n.awaken.Raised n') : NwcAfter n records .write n'
  | cleared (set : FlagSet) : NwcAfter n records .write (n.clear set records)
  | enables (irqEn wakeEn : FlagSet) : NwcAfter n records .write { n with irqEn := irqEn, wakeEn := wakeEn }
  | threshold (v : Byte) : NwcAfter n records .write { n with rxThreshold := heldThreshold v }
  | holdoff (v : Byte) : NwcAfter n records .write { n with rxHoldoff := v.toNat }
  | softReset (late : FlagSet) : NwcAfter n records .write (n.softReset late)

section Flags
variable {s t u e : State} {cmd : Cmd} {r : Nat}

theorem NwcAfter.of_eq {n n' : Nwc} {k : Cause} (same : n' = n) : NwcAfter n r k n' :=
  .raised (same ▸ .refl n)

theorem Nwc.Raised.of_eq {n n' : Nwc} (same : n' = n) : n.Raised n' := same ▸ .refl n

theorem Nwc.Raised.classified (h : Header) (c : Classified) (q : Rxq) (n : Nwc) : n.Raised (n.classified h c q) := by
  unfold Nwc.classified
  split
  · exact .raise n (by decide)
  · exact .refl n

theorem finishClassification_raised (s : State) : s.nwc.Raised (finishClassification s).nwc := by
  cases job : s.acf.job with
  | none => rw [finishClassification_of_none job]; exact .refl _
  | some j =>
    rw [finishClassification_eq job]
    exact (Nwc.Raised.classified _ _ _ _).trans (.doneIf _ _)

theorem loseFrame_raised (s : State) : s.nwc.Raised (loseFrame s).nwc := by
  rw [loseFrame_nwc]
  exact (finishClassification_raised s).trans (.doneIf _ _)

theorem loseToSkip_nwc (k : Counter) : (loseToSkip k s).nwc = (loseFrame (count k s)).nwc := by
  simp [loseToSkip]

theorem loseToSkip_raised (k : Counter) (s : State) : s.nwc.Raised (loseToSkip k s).nwc := by
  rw [loseToSkip_nwc]
  exact (count_raised k s).trans (loseFrame_raised _)

theorem readbackMismatch_nwc :
    (readbackMismatch s).nwc = (count .responseAborts (s.withRsp { s.rsp with state := .idle })).nwc := by
  unfold readbackMismatch
  dsimp only
  split <;> simp

theorem readbackMismatch_raised (s : State) : s.nwc.Raised (readbackMismatch s).nwc := by
  rw [readbackMismatch_nwc]
  exact count_raised .responseAborts (s.withRsp { s.rsp with state := .idle })

/-- A character start counts at most the abort of a response that waits (R138). -/
theorem startedCharacter_counts (s : State) :
    (startedCharacter s).nwc = s.nwc ∧ (startedCharacter s).ctb = s.ctb ∨
      ∃ e : State, e.nwc = s.nwc ∧ e.ctb = s.ctb ∧ startedCharacter s = count .responseAborts e := by
  unfold startedCharacter
  split
  · exact .inr ⟨(s.withLrv s.lrv.starting).withRsp { s.rsp with state := .idle }, rfl, rfl, rfl⟩
  · exact .inl ⟨rfl, rfl⟩
  · exact .inl ⟨rfl, rfl⟩

theorem characterStart_nwc : (characterStart s).nwc = (startedCharacter s).nwc := by
  rw [characterStart_eq]
  split <;> simp

theorem characterStart_ctb : (characterStart s).ctb = (startedCharacter s).ctb := by
  rw [characterStart_eq]
  split <;> simp

theorem characterStart_raised (s : State) : s.nwc.Raised (characterStart s).nwc := by
  rw [characterStart_nwc]
  obtain ⟨same, -⟩ | ⟨e, nwc, -, counted⟩ := startedCharacter_counts s
  · exact .of_eq same
  · rw [counted, ← nwc]
    exact count_raised .responseAborts e

/-! #### Frame commit: sets of flags, the record in their middle -/

/-- The part at the commit when the queue has its turn. -/
def beforeQueue (s : State) : State :=
  commitFilter (commitSource (s.rsp.inputs.bind fixVerdict) (count .framesGood s))

theorem beforeQueue_rxq : (beforeQueue s).rxq = s.rxq := by simp [beforeQueue]

theorem beforeQueue_raised (s : State) : s.nwc.Raised (beforeQueue s).nwc :=
  (count_raised .framesGood s).trans ((commitSource_raised _ _).trans (commitFilter_raised _))

theorem commitResponse_nwc : (commitResponse s).nwc = s.nwc := by simp

theorem commitFrame_raised_of_queue (s : State) :
    (commitQueue s.lrv.buffer.payload (beforeQueue s)).nwc.Raised (commitFrame s).nwc := by
  rw [commitFrame_nwc, commitBlocks, commitResponse_nwc]
  exact (commitSlot_raised _ _ _).trans (.doneIf _ _)

theorem commitFrame_raised (not_reserved : ∀ h r, s.rxq.claim ≠ .reserved h r) :
    s.nwc.Raised (commitFrame s).nwc :=
  (beforeQueue_raised s).trans ((commitQueue_raised (by rwa [beforeQueue_rxq])).trans (commitFrame_raised_of_queue s))

theorem commitFrame_recorded {h : Header} {c : Classified} (claim : s.rxq.claim = .reserved h c) :
    ((beforeQueue s).nwc.recordCommit c.urgent).Raised (commitFrame s).nwc := by
  have queue := commitQueue_nwc_of_reserved (s := beforeQueue s) (p := s.lrv.buffer.payload)
    ((congrArg Rxq.claim beforeQueue_rxq).trans claim)
  rw [← queue]
  exact commitFrame_raised_of_queue s

theorem commitFrame_nwcAfter {n : Nwc} (before : n.Raised s.nwc) : NwcAfter n r .other (commitFrame s).nwc := by
  cases claim : s.rxq.claim with
  | reserved h c => exact .committed c.urgent (before.trans (beforeQueue_raised s)) (commitFrame_recorded claim)
  | nothing | queueFull => exact .raised (before.trans (commitFrame_raised (by simp [claim])))

/-! #### The events -/

theorem ended_nwc (ended : Ended e u) : NwcAfter e.nwc r .other u.nwc := by
  cases ended with
  | badHeader _ buf k => exact .raised (by simpa using count_raised k (e.withLrv { e.lrv with buffer := buf }))
  | framingError => exact .raised (loseToSkip_raised _ _)
  | framingErrorLate => exact .raised ((finishClassification_raised e).trans (loseToSkip_raised _ _))
  | bodyByte => exact .raised (finishClassification_raised e)
  | commit => exact commitFrame_nwcAfter (finishClassification_raised e)
  | checkError _ buf =>
    have counted := count_raised .checkErrors ((finishClassification e).withLrv
      { (finishClassification e).lrv with buffer := buf })
    have lost := (finishClassification_raised e).trans (counted.trans (loseFrame_raised _))
    exact .raised (by simpa using lost)
  | sent => exact .raised (count_raised .responsesSent (e.withRsp { e.rsp with state := .idle }))
  | mismatch => exact .raised (readbackMismatch_raised e)
  | _ => exact .of_eq (by simp)

theorem owned_nwc (owned : Owned s cmd t) : NwcAfter s.nwc r .write t.nwc := by
  cases owned with
  | flushes => exact .flushed (.raise_cmdDone _)
  | sleeps => exact .sleeps (.raise_cmdDone _)
  | wakes => exact .wakes (.raise_cmdDone _)
  | sourceWaits | entryWaits | snapshot => exact .of_eq (by simp)
  | _ => exact .raised (by simpa using Nwc.Raised.raise_cmdDone s.nwc)

theorem takeSoftReset_nwc : (takeSoftReset s).nwc = s.nwc.softReset s.spi.late.flags := rfl

theorem written_nwc (written : Written s t) : NwcAfter s.nwc s.rxq.records.length .write t.nwc := by
  cases written with
  | taken _ owned => exact owned_nwc owned
  | softReset => rw [takeSoftReset_nwc]; exact .softReset _
  | unknown => exact .raised (.raise_cmdDone _)
  | pendingClear => exact .cleared _
  | enables => exact .enables _ _
  | threshold => exact .threshold _
  | holdoff => exact .holdoff _
  | _ => exact .raised (.refl _)

theorem completeRead_nwc {l : Load} (reads : s.spi.phase = .read l) : NwcAfter s.nwc r .other (completeRead s).nwc := by
  rw [completeRead_of_read s reads, State.withSpi_nwc]
  cases l.effect with
  | mitigation u => exact .captured u
  | _ => exact .raised (.refl _)

theorem tickSlots_raised (s : State) : s.nwc.Raised (tickSlots s).nwc := by
  unfold tickSlots
  dsimp only
  split
  · exact .raise _ (by decide)
  · exact .refl _

/-- Every event leaves the notification unit as one of the unit's own operations does. -/
theorem happens_nwc {k : Cause} (happens : Happens s k t) : NwcAfter s.nwc s.rxq.records.length k t.nwc := by
  cases happens with
  | reset => exact .reset
  | tick =>
    have tick := tickSlots_raised (s.withTkg { s.tkg with prescale := 0, tickCount := s.tkg.tickCount + 1 })
    simpa [doTick] using NwcAfter.ticked tick
  | missedRising _ _ level =>
    exact .raised (by simpa using count_raised .missedRising (enterSkip (noteLevel level s)))
  | character _ level ended => simpa using ended_nwc (r := s.rxq.records.length) ended
  | truncated =>
    exact .raised (by simpa using loseToSkip_raised .truncated (s.withLrv { s.lrv with idle := some Config.frameGap }))
  | stuckInFrame => exact .raised (by simpa using (loseFrame_raised s).trans (.raise (f := .lineFault) _ (by decide)))
  | stuck => exact .raised (by simpa using Nwc.Raised.raise (f := .lineFault) s.nwc (by decide))
  | stuckEnds => exact .raised (by simpa using Nwc.Raised.raise (f := .lineRecover) s.nwc (by decide))
  | echoMissing => exact .raised (by simpa using readbackMismatch_raised s)
  | classification => exact .raised (finishClassification_raised s)
  | copy snap =>
    simp only [copyDone, snap, if_true]
    refine .raised (Nwc.Raised.trans ?_ (complete_raised _ _))
    split
    · exact .raise s.nwc (by decide)
    · exact .refl s.nwc
  | @clear f busy soft =>
    exact .raised (complete_raised .ok (s.withCmu { s.cmu with aborted := f.abortCode }))
  | written _ w => simpa using written_nwc w
  | read reads => exact completeRead_nwc reads
  | select => rw [selectPort_eq]; exact .raised (.refl _)
  | deselect => rw [deselectPort_eq]; exact .raised (.refl _)
  | commandByte => rw [commandLoaded_eq]; exact .raised (.refl _)
  | arrivals => rw [noteArrivals_eq]; exact .raised (.refl _)
  | resetEnd => exact .raised (.refl _)
  | characterStart => exact .raised (characterStart_raised (s.withLrx false))
  | _ => exact .of_eq (by simp)

end Flags

/-! #### What an event can do to the counters (R183, R185, R187) -/

/-- No count falls, and none passes 65535. -/
def Counts.Grown (c c' : Counts) : Prop :=
  ∀ k : Counter, c.get k ≤ 65535 → c.get k ≤ c'.get k ∧ c'.get k ≤ 65535

theorem Counts.Grown.refl (c : Counts) : c.Grown c := fun _ bounded => ⟨le_rfl, bounded⟩

theorem Counts.Grown.of_eq {c c' : Counts} (same : c' = c) : c.Grown c' := same ▸ .refl c

theorem Counts.Grown.trans {c c' c'' : Counts} (h : c.Grown c') (h' : c'.Grown c'') : c.Grown c'' := by
  intro k bounded
  obtain ⟨le, bounded'⟩ := h k bounded
  obtain ⟨le', bounded''⟩ := h' k bounded'
  exact ⟨le.trans le', bounded''⟩

/-- The counter banks that an event can leave of one. -/
inductive CtbAfter (c : Ctb) : Cause → Ctb → Prop
  | grown {k : Cause} {c' : Ctb} (grown : c.live.Grown c'.live) : CtbAfter c k c'
  | snapshot : CtbAfter c .write c.snapshot
  | softReset (late : List Counter) : CtbAfter c .write (c.softReset late)
  | reset : CtbAfter c .reset State.reset.ctb

section Counters
variable {s t u e : State} {cmd : Cmd}

theorem CtbAfter.of_eq {c c' : Ctb} {k : Cause} (same : c' = c) : CtbAfter c k c' :=
  .grown (.of_eq (congrArg Ctb.live same))

theorem countBy_grown (k : Counter) (n : Nat) (s : State) : s.ctb.live.Grown (countBy k n s).ctb.live := by
  intro j bounded
  by_cases same : j = k
  · subst same
    rw [get_countBy]
    omega
  · rw [get_countBy_of_ne same]
    exact ⟨le_rfl, bounded⟩

theorem count_grown (k : Counter) (s : State) : s.ctb.live.Grown (count k s).ctb.live := countBy_grown k 1 s

theorem reportRelation_grown (r : Relation) (s : State) : s.ctb.live.Grown (reportRelation r s).ctb.live := by
  cases r with
  | gap n => exact countBy_grown .gapFrames n s
  | resync => exact count_grown .resyncs s
  | duplicate => exact count_grown .duplicates s
  | untracked => exact count_grown .untracked s
  | first | next | retry => exact .refl _

theorem commitSource_grown (v : Option Verdict) (s : State) : s.ctb.live.Grown (commitSource v s).ctb.live := by
  cases inHand : s.srt.inHand with
  | none => simp only [commitSource, inHand]; exact .refl _
  | some r =>
    simp only [commitSource, inHand]
    exact reportRelation_grown r.relation (s.withSrt (s.srt.commit v s.tkg.tickCount))

theorem commitFilter_grown (s : State) : s.ctb.live.Grown (commitFilter s).ctb.live := by
  cases held : s.acf.held with
  | none => simp only [commitFilter, held]; exact .refl _
  | some r =>
    simp only [commitFilter, held]
    split
    · exact count_grown .filtered (s.withAcf s.acf.commit)
    · exact .refl _

theorem commitQueue_grown (p : List Byte) (s : State) : s.ctb.live.Grown (commitQueue p s).ctb.live := by
  cases claim : s.rxq.claim with
  | nothing | reserved h r => exact .of_eq (by simp [commitQueue, claim])
  | queueFull =>
    simp only [commitQueue, claim]
    exact count_grown .qfullDrops (s.withRxq { s.rxq with claim := .nothing })

theorem commitFrame_grown (s : State) : s.ctb.live.Grown (commitFrame s).ctb.live := by
  have queue := (commitFilter_grown _).trans (commitQueue_grown s.lrv.buffer.payload (beforeQueue s))
  have blocks : (commitBlocks s).ctb = (commitQueue s.lrv.buffer.payload (beforeQueue s)).ctb := by
    simp [commitBlocks, beforeQueue]
  rw [commitFrame_ctb, blocks]
  exact (count_grown .framesGood s).trans ((commitSource_grown _ _).trans queue)

theorem loseToSkip_ctb (k : Counter) : (loseToSkip k s).ctb = (count k s).ctb := by simp [loseToSkip]

theorem readbackMismatch_grown (s : State) : s.ctb.live.Grown (readbackMismatch s).ctb.live := by
  have counted := count_grown .responseAborts (s.withRsp { s.rsp with state := .idle })
  unfold readbackMismatch
  dsimp only
  split
  · exact counted
  · simpa using counted

theorem characterStart_grown (s : State) : s.ctb.live.Grown (characterStart s).ctb.live := by
  rw [characterStart_ctb]
  obtain ⟨-, same⟩ | ⟨e, -, ctb, counted⟩ := startedCharacter_counts s
  · exact .of_eq (congrArg Ctb.live same)
  · rw [counted, ← ctb]
    exact count_grown .responseAborts e

theorem finishClassification_ctb : (finishClassification s).ctb = s.ctb := by simp

theorem ended_ctb (ended : Ended e u) : e.ctb.live.Grown u.ctb.live := by
  cases ended with
  | badHeader _ buf k => simpa using count_grown k (e.withLrv { e.lrv with buffer := buf })
  | framingError => rw [loseToSkip_ctb]; exact count_grown _ e
  | framingErrorLate => rw [loseToSkip_ctb]; simpa using count_grown .framingErrors (finishClassification e)
  | commit _ buf =>
    have committed := commitFrame_grown
      ((finishClassification e).withLrv { e.lrv with buffer := buf })
    rwa [State.withLrv_ctb, finishClassification_ctb] at committed
  | checkError _ buf =>
    have counted := count_grown .checkErrors ((finishClassification e).withLrv
      { (finishClassification e).lrv with buffer := buf })
    rw [State.withLrv_ctb, finishClassification_ctb] at counted
    exact counted.trans (.of_eq (by simp))
  | sent => exact count_grown .responsesSent (e.withRsp { e.rsp with state := .idle })
  | mismatch => exact readbackMismatch_grown e
  | _ => exact .of_eq (by simp)

theorem takeSoftReset_ctb : (takeSoftReset s).ctb = s.ctb.softReset s.spi.late.counts := rfl

theorem written_ctb (written : Written s t) : CtbAfter s.ctb .write t.ctb := by
  cases written with
  | taken _ owned =>
    cases owned with
    | counters => exact .snapshot
    | _ => exact .of_eq (by simp)
  | softReset => rw [takeSoftReset_ctb]; exact .softReset _
  | _ => exact .grown (.refl _)

/-- Every event leaves the counters grown, or takes them to their snapshots, or clears them. -/
theorem happens_ctb {k : Cause} (happens : Happens s k t) : CtbAfter s.ctb k t.ctb := by
  cases happens with
  | reset => exact .reset
  | characterStart => exact .grown (characterStart_grown (s.withLrx false))
  | missedRising _ _ level =>
    have counted := count_grown .missedRising (enterSkip (noteLevel level s))
    exact .grown (.trans (.of_eq (by simp)) (.trans counted (.of_eq (by simp))))
  | character _ level ended =>
    exact .grown (.trans (.of_eq (by simp)) (.trans (ended_ctb ended) (.of_eq (by simp))))
  | truncated =>
    have counted := count_grown .truncated (s.withLrv { s.lrv with idle := some Config.frameGap })
    exact .grown (.trans counted (.of_eq (by simp [loseToSkip_ctb])))
  | echoMissing => exact .grown (.trans (readbackMismatch_grown s) (.of_eq (by simp)))
  | copy snap =>
    refine .of_eq ?_
    simp only [copyDone, snap, if_true, complete_frame]
    split <;> rfl
  | written _ w => simpa using written_ctb w
  | read reads => exact .of_eq (by simp)
  | select => rw [selectPort_eq]; exact .grown (.refl _)
  | deselect => rw [deselectPort_eq]; exact .grown (.refl _)
  | commandByte => rw [commandLoaded_eq]; exact .grown (.refl _)
  | arrivals => rw [noteArrivals_eq]; exact .grown (.refl _)
  | _ => exact .of_eq (by simp)

end Counters
end Sys2Proof.Machine
end

section
/-! ### Every step keeps the bounds (R155 to R158, R183, R195) -/

namespace Sys2Proof.Machine

/-! #### The mitigation -/

@[simp] theorem Flag.isIn_not (f : Flag) (v : FlagSet) : f.isIn (~~~v) = !f.isIn v := by
  rw [Flag.isIn, BitVec.getLsbD_not, decide_eq_true f.bit_lt, Bool.true_and, Flag.isIn]

/-- The bounds of the mitigation (R155 to R158), of the notification unit alone. -/
structure Nwc.Bounded (n : Nwc) : Prop where
  threshold : 1 ≤ n.rxThreshold ∧ n.rxThreshold ≤ 16
  loads : n.rxHoldoff ≤ 255
  counted : n.u ≤ 341
  pending : Flag.rx.isIn n.flags = true → n.holdOff = none
  few : Flag.rx.isIn n.flags = false → n.u < 16
  runs : ∀ k ∈ n.holdOff, 1 ≤ k ∧ k ≤ 255 ∧ 1 ≤ n.u

theorem mitigationSound_iff (s : State) : s.MitigationSound ↔ s.nwc.Bounded :=
  ⟨fun ⟨threshold, loads, counted, pending, few, runs⟩ => ⟨threshold, loads, counted, pending, few, runs⟩,
    fun h => ⟨h.threshold, h.loads, h.counted, h.pending, h.few, h.runs⟩⟩

namespace Nwc.Bounded
variable {n n' : Nwc}

theorem raised (bounded : n.Bounded) (raised : n.Raised n') : n'.Bounded := by
  obtain ⟨keeps, -, rx⟩ := raised
  rw [keeps]
  exact ⟨bounded.threshold, bounded.loads, bounded.counted, fun set => bounded.pending (rx ▸ set),
    fun unset => bounded.few (rx ▸ unset), bounded.runs⟩

/-- With RX pending and no countdown, only the number of uncounted records matters. -/
theorem raise_rx (bounded : n.Bounded) (u : Nat) (counted : u ≤ 341) :
    ({ n with u := u, holdOff := none }.raise .rx).Bounded where
  threshold := bounded.threshold
  loads := bounded.loads
  counted := counted
  pending _ := rfl
  few unset := by simp at unset
  runs := nofun

theorem loaded_le (bounded : n.Bounded) : ∀ k ∈ n.loadedHoldOff, 1 ≤ k ∧ k ≤ 255 := by
  intro k mem
  unfold Nwc.loadedHoldOff at mem
  have loads := bounded.loads
  split at mem
  · cases mem
  · cases mem
    omega

theorem recordCommit (bounded : n.Bounded) (urgent : Bool) : (n.recordCommit urgent).Bounded := by
  have threshold := bounded.threshold.2
  unfold Nwc.recordCommit
  split
  · exact bounded
  · next not_pending =>
    have unset : Flag.rx.isIn n.flags = false := by simpa using not_pending
    have below := bounded.few unset
    have counted : n.u + 1 ≤ 341 := by omega
    dsimp only
    split
    · exact bounded.raise_rx (n.u + 1) counted
    · next not_due =>
      have under : n.u + 1 < 16 := by
        rw [not_or, Nat.not_le] at not_due
        omega
      split
      · refine ⟨bounded.threshold, bounded.loads, counted, fun set => absurd set not_pending,
          fun _ => under, fun k mem => ?_⟩
        obtain ⟨pos, le⟩ := bounded.loaded_le k mem
        exact ⟨pos, le, by simp⟩
      · refine ⟨bounded.threshold, bounded.loads, counted, fun set => absurd set not_pending,
          fun _ => under, fun k mem => ?_⟩
        obtain ⟨pos, le, -⟩ := bounded.runs k mem
        exact ⟨pos, le, by simp⟩

theorem recount (bounded : n.Bounded) (unset : Flag.rx.isIn n'.flags = false) {records : Nat}
    (kept : n' = { n with flags := n'.flags }) (le : records ≤ 341) : (n'.recount records).Bounded := by
  have threshold := bounded.threshold.2
  unfold Nwc.recount
  rw [kept]
  dsimp only
  split
  · exact ⟨bounded.threshold, bounded.loads, le, fun _ => rfl, fun h => by simp at h, nofun⟩
  · next not_due =>
    have under : records < 16 := by omega
    split
    · exact ⟨bounded.threshold, bounded.loads, le, fun _ => rfl, fun _ => under, nofun⟩
    · next some_queued =>
      refine ⟨bounded.threshold, bounded.loads, le, fun set => ?_, fun _ => under, fun k mem => ?_⟩
      · exact absurd set (by simp [unset])
      · obtain ⟨pos, le⟩ := bounded.loaded_le k mem
        exact ⟨pos, le, by dsimp only; omega⟩

theorem clear (bounded : n.Bounded) (set : FlagSet) {records : Nat} (le : records ≤ 341) :
    (n.clear set records).Bounded := by
  unfold Nwc.clear
  dsimp only
  split
  · next cleared =>
    refine bounded.recount ?_ rfl le
    simp [cleared.2]
  · next not_cleared =>
    have same : Flag.rx.isIn (n.flags &&& ~~~set) = Flag.rx.isIn n.flags := by
      cases unset : Flag.rx.isIn n.flags with
      | false => simp [unset]
      | true => simpa [unset] using not_cleared
    exact ⟨bounded.threshold, bounded.loads, bounded.counted, fun h => bounded.pending (same ▸ h),
      fun h => bounded.few (same ▸ h), bounded.runs⟩

theorem tick (bounded : n.Bounded) : n.tick.Bounded := by
  unfold Nwc.tick
  split
  · exact bounded
  · next k counting =>
    obtain ⟨pos, le, some_counted⟩ := bounded.runs k counting
    split
    · exact bounded.raise_rx n.u bounded.counted
    · refine ⟨bounded.threshold, bounded.loads, bounded.counted, fun h => ?_, bounded.few, fun j mem => ?_⟩
      · exact absurd (bounded.pending h) (by simp [counting])
      · cases mem
        exact ⟨by omega, by omega, some_counted⟩

theorem emptied (bounded : n.Bounded) : n.flushed.Bounded :=
  ⟨bounded.threshold, bounded.loads, Nat.zero_le _, fun _ => rfl, fun _ => by simp [Nwc.flushed], nofun⟩

/-- What an event leaves of the mitigation is bounded, where the queue's records are (R87, R159). -/
theorem after {records : Nat} {k : Cause} (bounded : n.Bounded) (le : records ≤ 341)
    (after : NwcAfter n records k n') : n'.Bounded := by
  cases after with
  | raised raised => exact bounded.raised raised
  | committed urgent before after => exact ((bounded.raised before).recordCommit urgent).raised after
  | ticked before => exact (bounded.raised before).tick
  | flushed after => exact bounded.emptied.raised after
  | sleeps after =>
    have asleep : n.sleep.Bounded :=
      ⟨bounded.threshold, bounded.loads, bounded.counted, bounded.pending, bounded.few, bounded.runs⟩
    exact asleep.raised after
  | wakes after =>
    have awake : n.awaken.Bounded :=
      ⟨bounded.threshold, bounded.loads, bounded.counted, bounded.pending, bounded.few, bounded.runs⟩
    exact awake.raised after
  | cleared set => exact bounded.clear set le
  | captured | enables =>
    exact ⟨bounded.threshold, bounded.loads, bounded.counted, bounded.pending, bounded.few, bounded.runs⟩
  | threshold v =>
    have held : 1 ≤ heldThreshold v ∧ heldThreshold v ≤ 16 := by
      unfold heldThreshold
      omega
    exact ⟨held, bounded.loads, bounded.counted, bounded.pending, bounded.few, bounded.runs⟩
  | holdoff v =>
    exact ⟨bounded.threshold, Nat.le_of_lt_succ v.isLt, bounded.counted, bounded.pending, bounded.few, bounded.runs⟩
  | softReset late =>
    exact ⟨bounded.threshold, bounded.loads, Nat.zero_le _, fun _ => rfl, fun _ => by simp [Nwc.softReset], nofun⟩
  | reset => exact ⟨by decide, by decide, by decide, fun _ => rfl, fun _ => by decide, nofun⟩

end Nwc.Bounded

/-- A record takes at least 12 bytes, so that at most 341 fit (R87). -/
theorem length_records_le {s : State} (fits : s.QueueFits) : s.rxq.records.length ≤ 341 := by
  have least : s.rxq.records.length * 12 ≤ recordBytes s.rxq.records := by
    have each : ∀ size ∈ s.rxq.records.map (recordSize ·.length), 12 ≤ size := by
      intro size mem
      obtain ⟨r, -, rfl⟩ := List.mem_map.mp mem
      exact Nat.le_add_right _ _
    simpa [recordBytes] using List.card_nsmul_le_sum _ 12 each
  have within : recordBytes s.rxq.records + s.rxq.claim.size ≤ 4096 := fits
  omega

theorem happens_mitigationSound {s t : State} {k : Cause} (fits : s.QueueFits) (sound : s.MitigationSound)
    (happens : Happens s k t) : t.MitigationSound :=
  (mitigationSound_iff t).mpr
    (((mitigationSound_iff s).mp sound).after (length_records_le fits) (happens_nwc happens))

/-! #### The counters and OWN_ADDRESS -/

theorem Counts.get_zero (k : Counter) : Counts.zero.get k = 0 := by cases k <;> rfl

@[simp] theorem Counts.get_ofFun (f : Counter → Nat) (k : Counter) : (Counts.ofFun f).get k = f k := by
  cases k <;> rfl

theorem CtbAfter.bounded {c c' : Ctb} {cause : Cause} (after : CtbAfter c cause c') (k : Counter)
    (bounded : c.live.get k ≤ 65535) : c'.live.get k ≤ 65535 := by
  cases after with
  | grown grown => exact (grown k bounded).2
  | snapshot => exact (Counts.get_zero k).trans_le (Nat.zero_le _)
  | softReset late =>
    rw [Ctb.softReset, Counts.get_ofFun]
    exact (Nat.min_le_right _ _).trans bounded
  | reset => exact (Counts.get_zero k).trans_le (Nat.zero_le _)

theorem LockedConfig.write_ownAddress_le (reg : LockedReg) (v : Byte) {c : LockedConfig}
    (held : c.ownAddress.toNat ≤ Config.maxNode) : (c.write reg v).ownAddress.toNat ≤ Config.maxNode := by
  cases reg with
  | ownAddress =>
    simp only [LockedConfig.write]
    split
    · assumption
    · exact Nat.zero_le _
  | _ => exact held

/-- Only an accepted write, in DORMANT, and a reset change the locked registers (R194). -/
inductive CfgAfter (c : LockedConfig) (dormant : Prop) : Cause → LockedConfig → Prop
  | same {k : Cause} : CfgAfter c dormant k c
  | written (reg : LockedReg) (v : Byte) (free : dormant) : CfgAfter c dormant .write (c.write reg v)
  | reset : CfgAfter c dormant .reset .reset

section Config
variable {s t u e : State} {cmd : Cmd}

theorem CfgAfter.of_eq {c c' : LockedConfig} {dormant : Prop} {k : Cause} (same : c' = c) :
    CfgAfter c dormant k c' := same ▸ .same

theorem written_cfg (written : Written s t) : CfgAfter s.cfg (s.clc.line = .dormant) .write t.cfg := by
  cases written with
  | taken _ owned => cases owned <;> exact .of_eq (by simp)
  | softReset => exact .of_eq (by simp)
  | config reg v dormant => exact .written reg v dormant
  | _ => exact .of_eq rfl

theorem happens_cfg {k : Cause} (happens : Happens s k t) :
    CfgAfter s.cfg (s.clc.line = .dormant) k t.cfg := by
  cases happens with
  | reset => exact .reset
  | character _ level ended =>
    rw [(syncIdle_frame _).2.2.1, (ended_clc_cfg ended).2]
    exact .of_eq (by simp)
  | written _ w => simpa using written_cfg w
  | select => rw [selectPort_eq]; exact .same
  | deselect => rw [deselectPort_eq]; exact .same
  | commandByte => rw [commandLoaded_eq]; exact .same
  | arrivals => rw [noteArrivals_eq]; exact .same
  | _ => exact .of_eq (by simp)

end Config

theorem happens_bounds {s t : State} {k : Cause} (fits : s.QueueFits) (mitigation : s.MitigationSound)
    (counters : s.CountersBounded) (own : s.OwnAddressHeld) (happens : Happens s k t) :
    t.MitigationSound ∧ t.CountersBounded ∧ t.OwnAddressHeld := by
  refine ⟨happens_mitigationSound fits mitigation happens,
    fun k mem => (happens_ctb happens).bounded k (counters k mem), ?_⟩
  have cfg := happens_cfg happens
  unfold State.OwnAddressHeld at own ⊢
  generalize t.cfg = c at cfg
  cases cfg with
  | same => exact own
  | written reg v => exact LockedConfig.write_ownAddress_le reg v own
  | reset => exact Nat.zero_le _

theorem stepKeepsBounds : Claim.StepKeepsBounds := by
  intro s t fits mitigation counters own next
  obtain ⟨rest, _, happens⟩ := step_happens next
  exact happens_bounds (s := s.withPending rest) fits mitigation counters own happens

end Sys2Proof.Machine
end

section
/-! ### Every step keeps the port (R100, R128, R188, R193) -/

namespace Sys2Proof.Machine

/-! #### Transactions -/

/-- A transaction is served only with CS_N low and no reset in force, and reports arrive with a data byte written
only. -/
def State.Served (s : State) : Prop :=
  (s.spi.phase ≠ .closed → s.spi.csN = false ∧ s.inReset = false) ∧
    (s.spi.phase ≠ .write → s.spi.late = ⟨0, []⟩)

section Transactions
variable {s t u e : State} {cmd : Cmd}

theorem State.Served.of_same (served : s.Served) (spi : t.spi = s.spi) (inReset : t.inReset = s.inReset) :
    t.Served := by
  unfold State.Served at served ⊢
  rwa [spi, inReset]

theorem State.Served.running (served : s.Served) (opened : s.spi.phase ≠ .closed) :
    s.spi.csN = false ∧ s.inReset = false := served.1 opened

theorem ended_port (ended : Ended e u) : u.spi = e.spi ∧ u.inReset = e.inReset := by
  cases ended with
  | _ => simp

theorem written_port (written : Written s t) : t.spi.phase = s.spi.phase ∧ t.spi.csN = s.spi.csN ∧
    t.inReset = s.inReset := by
  cases written with
  | taken _ owned => cases owned <;> simp
  | softReset => simp
  | _ => exact ⟨rfl, rfl, rfl⟩

theorem State.Served.select (served : s.Served) : (selectPort s).Served := by
  unfold selectPort
  split
  · next high =>
    have closed : s.spi.phase = .closed := by
      by_contra opened
      simp [(served.running opened).1] at high
    refine ⟨fun opened => ⟨rfl, ?_⟩, fun _ => served.2 (by simp [closed])⟩
    simpa using opened
  · exact served

theorem State.Served.deselect (served : s.Served) : (deselectPort s).Served := by
  unfold deselectPort
  split
  · exact served
  · exact ⟨fun opened => absurd rfl opened, fun _ => rfl⟩

theorem State.Served.arrivals (served : s.Served) (late : LateReports) : (noteArrivals late s).Served := by
  unfold noteArrivals
  split
  · next writing => exact ⟨served.1, fun not_writing => absurd writing not_writing⟩
  · exact served

theorem State.Served.commandLoaded (served : s.Served) (b : Byte) : (commandLoaded b s).Served := by
  unfold Machine.commandLoaded
  split
  · next status phase =>
    exact ⟨fun _ => served.running (by simp [phase]), fun _ => served.2 (by simp [phase])⟩
  all_goals exact served

theorem happens_served {k : Cause} (served : s.Served) (happens : Happens s k t) : t.Served := by
  cases happens with
  | reset => exact ⟨fun opened => absurd rfl opened, fun _ => rfl⟩
  | resetEnd => exact ⟨fun opened => ⟨(served.running opened).1, rfl⟩, served.2⟩
  | character _ level ended =>
    obtain ⟨spi, inReset⟩ := ended_port ended
    exact served.of_same (by simp [spi]) (by simp [inReset])
  | written writes w =>
    obtain ⟨phase, csN, inReset⟩ := written_port w
    refine ⟨fun _ => ?_, fun _ => rfl⟩
    simpa [csN, inReset] using served.running (by simp [writes.2.1])
  | @read l reads =>
    rw [completeRead_of_read s reads]
    refine ⟨fun _ => ?_, fun _ => served.2 (by simp [reads])⟩
    simpa using served.running (by simp [reads])
  | select => exact served.select
  | deselect => exact served.deselect
  | commandByte _ b => exact served.commandLoaded b
  | arrivals late => exact served.arrivals late
  | _ => exact served.of_same (by simp) (by simp)

end Transactions

/-! #### The read positions -/

theorem advancePos_le {p : Nat} (le : p ≤ Config.maxPayload) : advancePos p ≤ Config.maxPayload := by
  unfold advancePos Config.maxPayload at *
  split <;> omega

section Positions
variable {q c q' : Rxq}

theorem Rxq.fallen_readPos (before : Nat) (q : Rxq) : (q.fallen before).readPos = q.readPos := by
  unfold Rxq.fallen
  split <;> rfl

theorem Rxq.commit_readPos_le (stamp : Stamp) (payload : List Byte) (le : c.readPos ≤ Config.maxPayload) :
    (c.commit stamp payload).readPos ≤ Config.maxPayload := by
  unfold Rxq.commit
  split
  · exact le
  · unfold Rxq.push
    dsimp only
    split
    · exact Nat.zero_le _
    · exact le
  · exact le

theorem RxqAfter.readPos_le {k : Cause} (after : RxqAfter q c k q') (le : q.readPos ≤ Config.maxPayload)
    (classified : c.readPos ≤ Config.maxPayload) : q'.readPos ≤ Config.maxPayload := by
  cases after with
  | same | watermark | captured => exact le
  | classified => exact classified
  | lost => exact (Rxq.fallen_readPos _ _).trans_le classified
  | committed stamp payload => exact Rxq.commit_readPos_le stamp payload classified
  | stopped => exact (Rxq.fallen_readPos _ _).trans_le le
  | released | flushed => exact (Rxq.fallen_readPos _ _).trans_le (Nat.zero_le _)
  | softReset | reset => exact Nat.zero_le _
  | moved => exact advancePos_le le

theorem classifiedRxq_readPos (s : State) : s.classifiedRxq.readPos = s.rxq.readPos := by
  unfold State.classifiedRxq
  split
  · rfl
  · unfold Rxq.classified
    split <;> rfl

theorem LvsAfter.readPos_le {l l' : Lvs} {idle : Prop} (after : LvsAfter l idle l')
    (le : l.readPos ≤ Config.maxPayload) : l'.readPos ≤ Config.maxPayload := by
  cases after with
  | held | ticked | watch | captured => exact le
  | committed h u =>
    have kept : (Lvs.commit u { l with held := h }).readPos = l.readPos := by
      unfold Lvs.commit Lvs.update
      repeat' split
      all_goals rfl
    exact kept.trans_le le
  | copied =>
    have kept : l.endCopy.readPos = l.readPos := by
      unfold Lvs.endCopy
      split <;> rfl
    exact kept.trans_le le
  | snapshot | softReset | reset => exact Nat.zero_le _
  | moved => exact advancePos_le le

end Positions

theorem happens_portSound {s t : State} {k : Cause} (sound : s.PortSound) (happens : Happens s k t) :
    t.PortSound := by
  obtain ⟨opened, late, queuePos, slotPos⟩ := sound
  obtain ⟨opened', late'⟩ := happens_served ⟨opened, late⟩ happens
  exact ⟨opened', late',
    (happens_rxq happens).readPos_le queuePos ((classifiedRxq_readPos s).trans_le queuePos),
    (happens_lvs happens).readPos_le slotPos⟩

theorem stepKeepsThePort : Claim.StepKeepsThePort := fun _ _ sound next =>
  step_keeps (P := State.PortSound) (fun _ _ sound => sound) happens_portSound sound next

/-- Settles O56: the tables, the bounds and the port, each by what an event can leave of the blocks that hold
them. -/
theorem stepKeepsTablesAndBounds : Obligations.StepKeepsTablesAndBounds :=
  ⟨stepKeepsTables, stepKeepsBounds, stepKeepsThePort⟩

end Sys2Proof.Machine
end

section
/-! ### Every step keeps the slots and the watermark arm sound (R106, R107, R114, R118, R125, R126) -/

namespace Sys2Proof.Machine

/-! #### One slot -/

namespace Slot
variable {sl : Slot}

theorem watched_iff : sl.watched = true ↔ sl.maxAge ≠ 0 ∧ (sl.state = .fresh ∨ sl.state = .seen) :=
  decide_eq_true_iff

theorem emptied_sound (maxAge : Nat) : (emptied maxAge).Sound :=
  ⟨fun _ => ⟨rfl, rfl, rfl⟩, fun watched => by simp [watched_iff, emptied] at watched, Nat.zero_le _⟩

theorem Sound.tick (sound : sl.Sound) : sl.tick.Sound := by
  obtain ⟨empty, young, unread⟩ := sound
  unfold Slot.tick
  split
  · next watched =>
    specialize young watched
    obtain ⟨limited, shown⟩ := watched_iff.mp watched
    refine ⟨fun isEmpty => ?_, fun stillWatched => ?_, unread⟩
    · dsimp only at isEmpty
      split at isEmpty
      · cases isEmpty
      · simp [isEmpty] at shown
    · obtain ⟨-, stillShown⟩ := watched_iff.mp stillWatched
      dsimp only at stillShown ⊢
      split at stillShown
      · simp at stillShown
      · omega
  · exact ⟨empty, young, unread⟩

theorem tick_state_empty_iff : sl.tick.state = .empty ↔ sl.state = .empty := by
  unfold Slot.tick
  split
  · next watched =>
    obtain ⟨-, shown⟩ := watched_iff.mp watched
    dsimp only
    split
    · refine ⟨nofun, fun isEmpty => by simp [isEmpty] at shown⟩
    · rfl
  · rfl

@[simp] theorem tick_deferred : sl.tick.deferred = sl.deferred := by
  unfold Slot.tick
  split <;> rfl

theorem taken_state_empty_iff : sl.taken.state = .empty ↔ sl.state = .empty := by
  unfold Slot.taken
  dsimp only
  split <;> simp [*]

theorem Sound.taken (sound : sl.Sound) : sl.taken.Sound := by
  obtain ⟨empty, young, unread⟩ := sound
  refine ⟨fun isEmpty => ?_, fun watched => young ?_, Nat.zero_le _⟩
  · obtain ⟨content, -, deferred⟩ := empty (taken_state_empty_iff.mp isEmpty)
    exact ⟨content, rfl, deferred⟩
  · obtain ⟨limited, shown⟩ := watched_iff.mp watched
    refine watched_iff.mpr ⟨limited, ?_⟩
    simp only [Slot.taken] at shown
    split at shown
    · next fresh => exact .inl fresh
    · exact shown

theorem bump_unread_le (sl : Slot) : sl.bump.unread ≤ Config.totalTop := Nat.min_le_left _ _

theorem write_sound (u : SlotContent) (unread : sl.unread ≤ Config.totalTop) : (sl.write u).Sound := by
  refine ⟨nofun, fun watched => ?_, unread⟩
  exact Nat.pos_of_ne_zero (watched_iff.mp watched).1

theorem Sound.defer (sound : sl.Sound) (u : SlotContent) (shown : sl.state ≠ .empty) : (sl.defer u).Sound :=
  ⟨fun isEmpty => absurd isEmpty shown, sound.2.1, sl.bump_unread_le⟩

theorem Sound.watch (sound : sl.Sound) (maxAge : Nat) : { sl with maxAge := maxAge, age := 0 }.Sound :=
  ⟨sound.1, fun watched => Nat.pos_of_ne_zero (watched_iff.mp watched).1, sound.2.2⟩

end Slot

/-! #### The store -/

namespace Lvs
variable {l : Lvs} {m n : Nat} {sl : Slot}

theorem slotAt_setSlot_same (within : n < l.slots.length) : (l.setSlot n sl).slotAt n = sl := by
  simp [setSlot, slotAt, within]

theorem slotAt_setSlot_of_ne (ne : m ≠ n) : (l.setSlot n sl).slotAt m = l.slotAt m := by
  simp [setSlot, slotAt, List.getElem?_set_ne ne.symm]

theorem setSlot_of_le (le : l.slots.length ≤ n) : l.setSlot n sl = l := by
  simp [setSlot, List.set_eq_of_length_le le]

theorem slotAt_mem (within : n < l.slots.length) : l.slotAt n ∈ l.slots := by
  simp [slotAt, within]

/-- The soundness of the slots, of the store alone. -/
structure Sound (l : Lvs) : Prop where
  sized : l.slots.length = Config.slotCount
  each : ∀ sl ∈ l.slots, sl.Sound
  held_back : ∀ n < Config.slotCount, (l.slotAt n).deferred ≠ none → l.snap = some ⟨n, false⟩
  copied : ∀ f ∈ l.snap, f.wasEmpty = false → (l.slotAt f.slot).state ≠ .empty

theorem Sound.slotAt (sound : l.Sound) (n : Nat) : (l.slotAt n).Sound := by
  by_cases within : n < l.slots.length
  · exact sound.each _ (slotAt_mem within)
  · rw [Lvs.slotAt, List.getD_eq_default _ _ (Nat.le_of_not_lt within)]
    exact Slot.emptied_sound 0

/-- An update is held back only at the slot of a snapshot in flight that was not EMPTY. -/
theorem Sound.deferred (sound : l.Sound) (n : Nat) (held : (l.slotAt n).deferred ≠ none) :
    l.snap = some ⟨n, false⟩ := by
  by_cases within : n < Config.slotCount
  · exact sound.held_back n within held
  · rw [Lvs.slotAt, List.getD_eq_default _ _ (by rw [sound.sized]; exact Nat.le_of_not_lt within)] at held
    exact absurd rfl held

theorem mem_setSlot {x : Slot} (mem : x ∈ (l.setSlot n sl).slots) : x ∈ l.slots ∨ x = sl :=
  List.mem_or_eq_of_mem_set mem

/-- A slot may be replaced by a sound one that fits the snapshot in flight. -/
theorem Sound.setSlot (sound : l.Sound) (slot : sl.Sound) (deferred : sl.deferred ≠ none → l.snap = some ⟨n, false⟩)
    (shown : l.snap = some ⟨n, false⟩ → sl.state ≠ .empty) : (l.setSlot n sl).Sound := by
  by_cases within : n < l.slots.length
  · refine ⟨?_, fun x mem => ?_, fun m _ held => ?_, fun f copying nonempty => ?_⟩
    · rw [Lvs.setSlot, List.length_set, sound.sized]
    · obtain old | rfl := mem_setSlot mem
      · exact sound.each x old
      · exact slot
    · by_cases same : m = n
      · subst same
        rw [slotAt_setSlot_same within] at held
        exact deferred held
      · rw [slotAt_setSlot_of_ne same] at held
        exact sound.deferred m held
    · by_cases same : f.slot = n
      · subst same
        rw [slotAt_setSlot_same within]
        exact shown (by rw [← nonempty]; exact copying)
      · rw [slotAt_setSlot_of_ne same]
        exact sound.copied f copying nonempty
  · rwa [setSlot_of_le (Nat.le_of_not_lt within)]

theorem defers_iff : l.defers n = true ↔ l.snap = some ⟨n, false⟩ := decide_eq_true_iff

theorem Sound.update (sound : l.Sound) (u : SlotContent) : (l.update n u).Sound := by
  unfold Lvs.update
  split
  · next defers =>
    have copying := defers_iff.mp defers
    have shown := sound.copied ⟨n, false⟩ copying rfl
    exact sound.setSlot ((sound.slotAt n).defer u shown) (fun _ => copying) (fun _ => shown)
  · next free =>
    exact sound.setSlot (Slot.write_sound u (Slot.bump_unread_le _)) (sound.deferred n) (fun _ => nofun)

theorem Sound.commit (sound : l.Sound) (u : SlotContent) : (l.commit u).Sound := by
  unfold Lvs.commit
  split
  · exact sound
  · next n _ =>
    have updated := sound.update (n := n) u
    exact ⟨updated.sized, updated.each, updated.held_back, updated.copied⟩

theorem slotAt_tick (l : Lvs) (n : Nat) : l.tick.slotAt n = (l.slotAt n).tick := by
  simp only [slotAt, tick, List.getD_eq_getElem?_getD, List.getElem?_map]
  cases l.slots[n]? <;> rfl

theorem Sound.tick (sound : l.Sound) : l.tick.Sound := by
  refine ⟨(List.length_map _).trans sound.sized, fun x mem => ?_, fun n _ held => ?_, fun f copying nonempty => ?_⟩
  · obtain ⟨sl, old, rfl⟩ := List.mem_map.mp mem
    exact (sound.each sl old).tick
  · rw [slotAt_tick, Slot.tick_deferred] at held
    exact sound.deferred n held
  · rw [slotAt_tick, ne_eq, Slot.tick_state_empty_iff]
    exact sound.copied f copying nonempty

theorem slotAt_takeSnapshot (l : Lvs) (m n : Nat) :
    (l.takeSnapshot n).slotAt m = (l.setSlot n (l.slotAt n).taken).slotAt m := rfl

theorem Sound.takeSnapshot (sound : l.Sound) (within : n < Config.slotCount) (free : l.snap = none) :
    (l.takeSnapshot n).Sound := by
  have none_held (m : Nat) : (l.slotAt m).deferred = none := by
    by_contra held
    rw [sound.deferred m held] at free
    cases free
  have replaced : (l.setSlot n (l.slotAt n).taken).Sound :=
    sound.setSlot (sound.slotAt n).taken (fun held => absurd (none_held n) held) (fun copying => by simp [free] at copying)
  refine ⟨replaced.sized, replaced.each, fun m _ held => ?_, fun f copying nonempty => ?_⟩
  · have copying := replaced.deferred m held
    cases free.symm.trans copying
  · cases copying
    rw [slotAt_takeSnapshot, slotAt_setSlot_same (by rwa [sound.sized]), ne_eq, Slot.taken_state_empty_iff]
    exact of_decide_eq_false nonempty

/-- Copy completion: the update held back is written, and no other slot holds one back. -/
theorem Sound.endCopy (sound : l.Sound) : l.endCopy.Sound := by
  unfold Lvs.endCopy
  split
  · exact sound
  · next f copying =>
    have here_only (m : Nat) (held : (l.slotAt m).deferred ≠ none) : m = f.slot := by
      cases copying.symm.trans (sound.deferred m held)
      rfl
    dsimp only
    split
    · next none_held =>
      refine ⟨sound.sized, sound.each, fun m _ held => ?_, nofun⟩
      exact absurd (here_only m held ▸ none_held) held
    · next u held_back =>
      have written : { (l.slotAt f.slot).write u with deferred := none }.Sound :=
        ⟨nofun, (Slot.write_sound u (sound.slotAt f.slot).2.2).2.1, (sound.slotAt f.slot).2.2⟩
      have replaced : (l.setSlot f.slot { (l.slotAt f.slot).write u with deferred := none }).Sound :=
        sound.setSlot written (fun held => absurd rfl held) (fun _ => nofun)
      refine ⟨replaced.sized, replaced.each, fun m lt held => ?_, nofun⟩
      have within : m < l.slots.length := by rwa [sound.sized]
      by_cases same : m = f.slot
      · subst same
        exact absurd (congrArg Slot.deferred (slotAt_setSlot_same within)) held
      · have old := congrArg Slot.deferred
          (slotAt_setSlot_of_ne (l := l) (sl := { (l.slotAt f.slot).write u with deferred := none }) same)
        exact absurd (here_only m (old ▸ held)) same

theorem Sound.softReset (sound : l.Sound) : l.softReset.Sound := by
  refine ⟨(List.length_map _).trans sound.sized, fun x mem => ?_, fun n lt held => ?_, nofun⟩
  · obtain ⟨sl, -, rfl⟩ := List.mem_map.mp mem
    exact Slot.emptied_sound _
  · refine absurd ?_ held
    have within : n < l.slots.length := by rwa [sound.sized]
    simp [Lvs.slotAt, Lvs.softReset, within, Slot.emptied]

theorem reset_sound : State.reset.lvs.Sound := by
  refine ⟨List.length_replicate, fun sl mem => ?_, fun n lt held => ?_, nofun⟩
  · rw [List.eq_of_mem_replicate mem]
    exact Slot.emptied_sound 0
  · refine absurd ?_ held
    have within : n < (List.replicate Config.slotCount (Slot.emptied 0)).length := by rwa [List.length_replicate]
    have slot : State.reset.lvs.slotAt n = Slot.emptied 0 := List.eq_of_mem_replicate (slotAt_mem within)
    rw [slot]
    rfl

/-- What an event leaves of the store is sound, where SNAPSHOT SLOT is taken with no snapshot in flight. -/
theorem Sound.after {l' : Lvs} {idle : Prop} (sound : l.Sound) (free : idle → l.snap = none)
    (after : LvsAfter l idle l') : l'.Sound := by
  cases after with
  | held | captured | moved => exact ⟨sound.sized, sound.each, sound.held_back, sound.copied⟩
  | committed h u =>
    have moved : { l with held := h }.Sound := ⟨sound.sized, sound.each, sound.held_back, sound.copied⟩
    exact moved.commit u
  | ticked => exact sound.tick
  | snapshot n within idle => exact sound.takeSnapshot within (free idle)
  | watch n maxAge =>
    exact sound.setSlot ((sound.slotAt n).watch maxAge) (sound.deferred n)
      (fun copying => sound.copied ⟨n, false⟩ copying rfl)
  | copied => exact sound.endCopy
  | softReset => exact sound.softReset
  | reset => exact reset_sound

end Lvs

theorem slotsSound_iff {s : State} (sized : s.TablesSized) : s.SlotsSound ↔ s.lvs.Sound :=
  ⟨fun ⟨each, held_back, copied⟩ => ⟨sized.2.2, each, held_back, copied⟩,
    fun h => ⟨h.each, h.held_back, h.copied⟩⟩

/-! #### The watermark arm -/

theorem belowLevel_of_le {w u u' : Nat} (le : u ≤ u') (below : belowLevel w u' = true) : belowLevel w u = true := by
  simp only [belowLevel, decide_eq_true_eq] at below ⊢
  omega

theorem not_belowLevel_of_le {w u u' : Nat} (le : u ≤ u') (reached : belowLevel w u = false) :
    belowLevel w u' = false := by
  cases below : belowLevel w u' with
  | false => rfl
  | true => rw [belowLevel_of_le le below] at reached; cases reached

namespace Rxq
variable {q c q' : Rxq}

/-- The soundness of the arm, of the queue alone. -/
structure ArmSound (q : Rxq) : Prop where
  level : q.watermark ≤ 64
  reached : q.arm = false → belowLevel q.watermark q.used = false

/-- The used bytes may fall if the fall is looked at, whatever becomes of the records and the claim. -/
theorem ArmSound.fallen (sound : q.ArmSound) (watermark : q'.watermark = q.watermark) (arm : q'.arm = q.arm) :
    (q'.fallen q.used).ArmSound := by
  unfold Rxq.fallen
  split
  · exact ⟨watermark ▸ sound.level, nofun⟩
  · next not_fallen =>
    refine ⟨watermark ▸ sound.level, fun unarmed => ?_⟩
    by_cases fell : q'.used < q.used
    · simpa [fell] using not_fallen
    · rw [watermark]
      exact not_belowLevel_of_le (Nat.le_of_not_lt fell) (sound.reached (arm ▸ unarmed))

theorem ArmSound.claimed (sound : q.ArmSound) (claim : q.claim = .nothing) (h : Header) (r : Classified) :
    (q.claimed h r).ArmSound := by
  refine ⟨sound.level, fun unarmed => ?_⟩
  have grows : q.used ≤ (q.claimFor h r).used := by
    simp [Rxq.used, Rxq.claimFor, claim, Claim.size]
  change belowLevel q.watermark (q.claimFor h r).used = false
  cases arm : q.arm with
  | false => exact not_belowLevel_of_le grows (sound.reached arm)
  | true =>
    have rises : q.fits h = true ∧ belowLevel q.watermark (q.claimFor h r).used = false := by
      simpa [Rxq.claimed, arm] using unarmed
    exact rises.2

theorem ArmSound.of_used (sound : q.ArmSound) (used : q'.used = q.used) (watermark : q'.watermark = q.watermark)
    (arm : q'.arm = q.arm) : q'.ArmSound :=
  ⟨watermark ▸ sound.level, fun unarmed => by rw [watermark, used]; exact sound.reached (arm ▸ unarmed)⟩

theorem commit_watermark_arm (stamp : Stamp) (payload : List Byte) :
    (q.commit stamp payload).watermark = q.watermark ∧ (q.commit stamp payload).arm = q.arm := by
  unfold Rxq.commit
  split <;> exact ⟨rfl, rfl⟩

theorem ArmSound.writeWatermark (v : Byte) (q : Rxq) : (q.writeWatermark v).ArmSound := by
  refine ⟨Nat.min_le_right _ _, fun unarmed => ?_⟩
  have neither : q.arm = false ∧ belowLevel (min v.toNat 64) q.used = false := by
    simpa [Rxq.writeWatermark] using unarmed
  exact neither.2

theorem ArmSound.after {k : Cause} (sound : q.ArmSound) (classified : c.ArmSound) (after : RxqAfter q c k q') :
    q'.ArmSound := by
  cases after with
  | same => exact sound
  | classified => exact classified
  | lost => exact classified.fallen rfl rfl
  | committed stamp payload =>
    obtain ⟨watermark, arm⟩ := commit_watermark_arm (q := c) stamp payload
    exact classified.of_used (Rxq.used_commit stamp payload c) watermark arm
  | stopped | released | flushed => exact sound.fallen rfl rfl
  | softReset =>
    have abandoned : q.abandon.ArmSound := sound.fallen rfl rfl
    exact ⟨abandoned.level, nofun⟩
  | reset => exact ⟨Nat.zero_le _, nofun⟩
  | watermark v => exact .writeWatermark v q
  | captured | moved => exact ⟨sound.level, sound.reached⟩

end Rxq

theorem classifiedRxq_armSound {s : State} (sound : s.rxq.ArmSound) (frame : s.FrameAgrees) :
    s.classifiedRxq.ArmSound := by
  unfold State.classifiedRxq
  split
  · exact sound
  · next j job =>
    obtain ⟨-, claim, -⟩ := frame.2.1 (by simp [job])
    unfold Rxq.classified
    split
    · exact sound.claimed claim _ _
    · exact sound

theorem happens_slots_watermark {s t : State} {k : Cause} (sized : s.TablesSized) (line : s.LineSound)
    (waits : s.CommandWaits) (slots : s.SlotsSound) (arm : s.WatermarkSound) (happens : Happens s k t) :
    t.SlotsSound ∧ t.WatermarkSound := by
  have store : t.lvs.Sound :=
    ((slotsSound_iff sized).mp slots).after waits.snap_of_idle (happens_lvs happens)
  have queue : s.rxq.ArmSound := ⟨arm.1, arm.2⟩
  obtain ⟨level, reached⟩ := queue.after (classifiedRxq_armSound queue line.2.2.1) (happens_rxq happens)
  exact ⟨⟨store.each, store.held_back, store.copied⟩, level, reached⟩

/-- Settles O57: what an event can leave of the store, given that SNAPSHOT SLOT is taken with no snapshot in
flight, and of the queue, given that a classification in flight has no claim yet. -/
theorem stepKeepsSlotsAndWatermark : Obligations.StepKeepsSlotsAndWatermark := by
  intro s t sized line waits slots arm next
  obtain ⟨rest, _, happens⟩ := step_happens next
  have queued : (s.withPending rest).LineSound := line.of_same rfl rfl rfl rfl rfl rfl
  exact happens_slots_watermark (s := s.withPending rest) sized queued waits slots arm happens

end Sys2Proof.Machine
end

section
/-! ### The commands that a host's data byte is, row by row (Tables 74 and 82) -/

namespace Sys2Proof.Machine

/-- The command that a row of CMD other than SOFT RESET's writes. -/
def hostCmd : Instr → Option Cmd
  | .startLine => some .startLine | .stopLine => some .stopLine
  | .pinSource => some .pinSource | .unpinSource => some .unpinSource
  | .forgetSource => some .forgetSource | .forgetUnpinned => some .forgetUnpinned
  | .readSource => some .readSource
  | .commitEntry => some .commitEntry | .clearEntry => some .clearEntry | .readEntry => some .readEntry
  | .releaseHead => some .releaseHead | .flushQueue => some .flushQueue
  | .snapshotSlot => some .snapshotSlot | .setSlotWatch => some .setSlotWatch
  | .hostSleep => some .hostSleep | .hostAwake => some .hostAwake
  | .snapshotCounters => some .snapshotCounters | .nop => some .nop
  | _ => none

theorem hostCmd_ne_softReset {c : Instr} {cmd : Cmd} (row : hostCmd c = some cmd) : cmd ≠ .softReset := by
  cases c <;> cases row <;> nofun

/-- A row of CMD is the taking of its command for its owner. -/
theorem exec_of_hostCmd {c : Instr} {cmd : Cmd} (row : hostCmd c = some cmd) (s : State) :
    exec c s = .next (hostWrite cmdAddr (takeCommand cmd cmd.owner) s) := by
  cases c <;> cases row <;> rfl

/-- A row of CMD whose command is taken: its owner acts on the part with the command in flight. -/
theorem exec_of_takes {c : Instr} {cmd : Cmd} {s : State} (row : hostCmd c = some cmd) (takes : s.Takes) :
    exec c s = .next ((cmd.owner (s.cmu.capture cmd) (s.busyWith cmd)).wrote 0x07) :=
  (exec_of_hostCmd row s).trans (congrArg Host.Outcome.next (hostWrite_takeCommand cmd.owner takes))

/-! #### What a row's data byte does -/

/-- What a write at an address without a row of its own does. -/
inductive Held (s : State) : State → Prop
  | nothing : Held s s
  | commandUnit (c : Cmu) : Held s (s.withCmu c)
  | page (p : BitVec 2) : Held s (s.withSpi { s.spi with page := p })
  | wakeEnables (v : FlagSet) : Held s (s.withNwc { s.nwc with wakeEn := v })
  | threshold (v : Byte) : Held s (s.withNwc { s.nwc with rxThreshold := heldThreshold v })
  | holdoff (v : Byte) : Held s (s.withNwc { s.nwc with rxHoldoff := v.toNat })
  | hash (i : Nat) (v : Byte) : Held s (s.withAcf { s.acf with hash := s.acf.hash.set i v })
  | staging (g : Staging) : Held s (s.withAcf { s.acf with staging := g })

/-- What the data byte of each row does, ahead of the port's own move. -/
inductive ByRow (s : State) : Instr → State → Prop
  | refused (c : Instr) : ByRow s c (s.withCmu { s.cmu with rejected := true })
  | taken {c : Instr} {cmd : Cmd} {t : State} (row : hostCmd c = some cmd) (idle : s.cmu.inFlight = none)
      (owned : Owned s cmd t) : ByRow s c t
  | unknown (code : Byte) : ByRow s (.unknownCommand code) (s.completed code .arg)
  | softReset : ByRow s .softReset (takeSoftReset s)
  | pendingClear (high : Bool) (v : Byte) : ByRow s (.pendingClear high v) (clearPending high v s)
  | cmdFlags (v : Byte) : ByRow s (.cmdFlagsClear v) (clearCmdFlags v s)
  | irqEnables (high : Bool) (v : Byte) : ByRow s (.irqEnWrite high v) (writeIrqEn high v s)
  | watermark (v : Byte) : ByRow s (.watermarkWrite v) (writeWatermark v s)
  | locked (reg : LockedReg) (v : Byte) : ByRow s (.lockedRegisterWrite reg v) (writeLocked reg v s)
  | register (addr : RegAddr) (v : Byte) {t : State} (held : Held s t) : ByRow s (.registerWrite addr v) t

section Rows
variable {s t : State} {c : Instr} {addr : RegAddr}

theorem mem_ownRowAddresses_iff :
    addr ∈ Config.ownRowAddresses ↔
      addr.toNat ∈ [0x06, 0x0A, 0x0B, 0x0C, 0x0D, 0x0E, 0x17, 0x18, 0x19, 0x1A, 0x1B, 0x1C, 0x1D, 0x33] := by
  have numbers : Config.ownRowAddresses.map BitVec.toNat =
      [0x06, 0x0A, 0x0B, 0x0C, 0x0D, 0x0E, 0x17, 0x18, 0x19, 0x1A, 0x1B, 0x1C, 0x1D, 0x33] := rfl
  rw [← numbers]
  refine (List.mem_map_of_injective ?_).symm
  exact fun _ _ same => BitVec.eq_of_toNat_eq same

theorem held_writeCommon {a : Nat} (v : Byte) (s : State)
    (no_row : a ∉ [0x06, 0x0A, 0x0B, 0x0C, 0x0D, 0x0E, 0x17, 0x18, 0x19, 0x1A, 0x1B, 0x1C, 0x1D, 0x33]) :
    Held s (writeCommon a v s) := by
  unfold writeCommon
  split
  case h_1 => exact .page _
  case h_2 | h_3 | h_4 => exact .commandUnit _
  case h_11 | h_12 => exact .wakeEnables _
  case h_13 => exact .threshold v
  case h_14 => exact .holdoff v
  case h_23 => exact .nothing
  all_goals simp at no_row

theorem held_writePaged (a : Nat) (v : Byte) (s : State) : Held s (writePaged a v s) := by
  unfold writePaged
  split
  · exact .hash _ v
  · split
    · exact .staging _
    · exact .nothing

theorem held_writeReg (v : Byte) (s : State) (no_row : addr ∉ Config.ownRowAddresses) :
    Held s (writeReg addr v s) := by
  unfold writeReg
  split
  · exact held_writeCommon v s (mt mem_ownRowAddresses_iff.mpr no_row)
  · exact held_writePaged _ v s

/-- A row's data byte does nothing, or what its row says and the port's move. -/
def WroteByRow (s : State) (c : Instr) (t : State) : Prop :=
  t = s ∨ ∃ u, t = u.wrote (ptrAfter s s.spi.ptr) ∧ ByRow s c u

theorem wroteByRow_of_hostWrite {effect : State → State} (row : ByRow s c (effect s)) :
    WroteByRow s c (hostWrite addr effect s) := by
  by_cases writes : s.WritesAt addr
  · obtain rfl : s.spi.ptr = addr := writes.2.2
    rw [hostWrite_of_WritesAt s effect writes]
    exact .inr ⟨effect s, rfl, row⟩
  · rw [hostWrite_of_not_WritesAt s effect writes]
    exact .inl rfl

theorem byRow_takeCommand {cmd : Cmd} (row : hostCmd c = some cmd) (s : State) :
    ByRow s c (takeCommand cmd cmd.owner s) := by
  cases inFlight : s.cmu.inFlight with
  | none =>
    rw [takeCommand_of_idle _ inFlight]
    exact .taken row inFlight (owned_owner cmd (hostCmd_ne_softReset row))
  | some f => rw [takeCommand_of_busy cmd _ inFlight]; exact .refused c

theorem byRow_takeUnknown (code : Byte) (s : State) : ByRow s (.unknownCommand code) (takeUnknown code s) := by
  cases inFlight : s.cmu.inFlight with
  | none => rw [takeUnknown_of_idle code inFlight]; exact .unknown code
  | some f => rw [takeUnknown_of_busy code inFlight]; exact .refused _

/-- What a well-formed row of the window does to the part. -/
theorem wroteByRow {c : Instr} (wf : c.wf = true) (at_some : c.writeAddr ≠ none) (next : exec c s = .next t) :
    WroteByRow s c t := by
  cases row : hostCmd c with
  | some cmd =>
    cases (exec_of_hostCmd row s).symm.trans next
    exact wroteByRow_of_hostWrite (byRow_takeCommand row s)
  | none =>
    cases c with
    | unknownCommand code =>
      have unknown : code ∉ Config.commandCodes := by simpa [Instr.wf] using wf
      cases (exec_unknownCommand_of_unknown unknown s).symm.trans next
      exact wroteByRow_of_hostWrite (byRow_takeUnknown code s)
    | softReset => cases next; exact wroteByRow_of_hostWrite .softReset
    | pendingClear high v => cases next; exact wroteByRow_of_hostWrite (.pendingClear high v)
    | cmdFlagsClear v => cases next; exact wroteByRow_of_hostWrite (.cmdFlags v)
    | irqEnWrite high v => cases next; exact wroteByRow_of_hostWrite (.irqEnables high v)
    | watermarkWrite v => cases next; exact wroteByRow_of_hostWrite (.watermark v)
    | lockedRegisterWrite reg v => cases next; exact wroteByRow_of_hostWrite (.locked reg v)
    | registerWrite addr v =>
      have no_row : addr ∉ Config.ownRowAddresses := by simpa [Instr.wf] using wf
      cases next
      exact wroteByRow_of_hostWrite (.register addr v (held_writeReg v s no_row))
    | _ => first | exact absurd rfl at_some | cases row

end Rows

end Sys2Proof.Machine
end

section
/-! ### What the commands move: the line, the records, the counters and the pending flags
(R90, R149, R183, R194, Table 13) -/

namespace Sys2Proof.Machine

section Moves
variable {s t u e : State} {c : Instr} {cmd : Cmd} {k : Cause}

/-! #### The line state (Table 13) -/

theorem causeOf_cases (c : Instr) (no_row : c.writeAddr = none) :
    causeOf c = .other ∨ (causeOf c = .settle ∧ c = .settleCompletion) ∨
      (causeOf c = .reset ∧ (c = .powerOnReset ∨ c = .pinReset)) := by
  unfold causeOf
  rw [no_row, Option.isSome_none, if_neg Bool.false_ne_true]
  split <;> simp

theorem causeOf_eq_reset (reset : causeOf c = .reset) : c = .powerOnReset ∨ c = .pinReset := by
  by_cases no_row : c.writeAddr = none
  · obtain h | ⟨h, -⟩ | ⟨-, h⟩ := causeOf_cases c no_row
    · cases h.symm.trans reset
    · cases h.symm.trans reset
    · exact h
  · cases (causeOf_of_writeAddr no_row).symm.trans reset

theorem causeOf_eq_settle (settle : causeOf c = .settle) : c = .settleCompletion := by
  by_cases no_row : c.writeAddr = none
  · obtain h | ⟨-, h⟩ | ⟨h, -⟩ := causeOf_cases c no_row
    · cases h.symm.trans settle
    · exact h
    · cases h.symm.trans settle
  · cases (causeOf_of_writeAddr no_row).symm.trans settle

theorem causeOf_ne_write (no_row : c.writeAddr = none) : causeOf c ≠ .write := by
  obtain h | ⟨h, -⟩ | ⟨h, -⟩ := causeOf_cases c no_row <;> rw [h] <;> nofun

theorem enterListen_line : (enterListen s).clc.line = .listen ∨ (enterListen s).clc.line = .rising := by
  unfold enterListen
  split
  · exact .inl rfl
  · exact .inr rfl

/-- A tick moves the line only where the idle hold has one tick to go (R12). -/
theorem tickIdle_line (holds : s.IdleHoldAgrees) :
    (tickIdle s).clc.line = s.clc.line ∨
      (s.clc.line = .active ∧ s.clc.idleCount = some 1 ∧
        ((tickIdle s).clc.line = .listen ∨ (tickIdle s).clc.line = .rising)) := by
  unfold tickIdle
  split
  · exact .inl rfl
  · next n counting =>
    split
    · exact .inl rfl
    · split
      · next due =>
        obtain ⟨pos, -⟩ := holds.2 n counting
        obtain rfl : n = 1 := by omega
        have running := (holds.1.mp (by simp [counting])).1
        exact .inr ⟨(idleHolds_iff.mp running).1.1, counting, enterListen_line⟩
      · exact .inl rfl

/-- The part at a tick when the idle hold has its turn. -/
def beforeIdleHold (s : State) : State :=
  let s := tickSlots (s.withTkg { s.tkg with prescale := 0, tickCount := s.tkg.tickCount + 1 })
  s.withNwc s.nwc.tick

theorem doTick_eq (s : State) : doTick s = tickIdle (beforeIdleHold s) := rfl

theorem beforeIdleHold_frame (s : State) :
    (beforeIdleHold s).clc = s.clc ∧ (beforeIdleHold s).lrv = s.lrv ∧ (beforeIdleHold s).rsp = s.rsp ∧
      (beforeIdleHold s).cfg = s.cfg := by
  simp [beforeIdleHold]

theorem doTick_line (holds : s.IdleHoldAgrees) :
    (doTick s).clc.line = s.clc.line ∨
      (s.clc.line = .active ∧ s.clc.idleCount = some 1 ∧
        ((doTick s).clc.line = .listen ∨ (doTick s).clc.line = .rising)) := by
  obtain ⟨clc, lrv, rsp, cfg⟩ := beforeIdleHold_frame s
  have kept : (beforeIdleHold s).IdleHoldAgrees := by
    unfold State.IdleHoldAgrees State.idleHolds at holds ⊢
    rwa [clc, lrv, rsp, cfg]
  rw [doTick_eq, ← clc]
  exact tickIdle_line kept

theorem happens_line (sound : s.LineSound) (not_write : k ≠ .write) (happens : Happens s k t) :
    t.clc.line = s.clc.line ∨
      (s.clc.line = .listen ∧ t.clc.line = .rising ∧ s.lrx = true ∧ t.lrx = false) ∨
      (s.clc.line = .rising ∧ k = .settle ∧ t.clc.line = .active) ∨
      (s.clc.line = .active ∧ s.clc.idleCount = some 1 ∧ (t.clc.line = .listen ∨ t.clc.line = .rising)) ∨
      (k = .reset ∧ t.clc.line = .dormant) := by
  cases happens with
  | reset => exact .inr (.inr (.inr (.inr ⟨rfl, rfl⟩)))
  | tick =>
    obtain ⟨-, -, -, -, holds⟩ := sound
    obtain same | expired := doTick_line holds
    · exact .inl same
    · exact .inr (.inr (.inr (.inl expired)))
  | wakes high line => exact .inr (.inl ⟨line, rfl, high, rfl⟩)
  | characterStart => exact .inl (by simp [characterStart_line])
  | settled line => exact .inr (.inr (.inl ⟨line, rfl, by simp [syncIdle_line]⟩))
  | character _ level ended =>
    refine .inl ?_
    rw [syncIdle_line, (ended_clc_cfg ended).1]
    simp
  | written => exact absurd rfl not_write
  | select => rw [selectPort_eq]; exact .inl rfl
  | deselect => rw [deselectPort_eq]; exact .inl rfl
  | commandByte => rw [commandLoaded_eq]; exact .inl rfl
  | arrivals => rw [noteArrivals_eq]; exact .inl rfl
  | _ => exact .inl (by simp [syncIdle_line])

theorem owned_line (owned : Owned s cmd t) :
    t.clc.line = s.clc.line ∨
      (s.clc.line = .dormant ∧ cmd = .startLine ∧ (t.clc.line = .listen ∨ t.clc.line = .rising)) ∨
      (cmd = .stopLine ∧ t.clc.line = .dormant) := by
  cases owned with
  | startsRising start line => exact .inr (.inl ⟨line, start, .inr rfl⟩)
  | startsListen start line => exact .inr (.inl ⟨line, start, enterListen_line⟩)
  | stops stop => exact .inr (.inr ⟨stop, rfl⟩)
  | _ => exact .inl (by simp)

theorem hostCmd_startLine (row : hostCmd c = some .startLine) : c = .startLine := by
  cases c <;> cases row
  rfl

theorem hostCmd_stopLine (row : hostCmd c = some .stopLine) : c = .stopLine := by
  cases c <;> cases row
  rfl

theorem held_clc (held : Held s t) : t.clc = s.clc := by cases held <;> rfl

theorem writeLocked_clc (reg : LockedReg) (v : Byte) (s : State) : (writeLocked reg v s).clc = s.clc := by
  unfold writeLocked
  split <;> rfl

theorem byRow_line (row : ByRow s c t) :
    t.clc.line = s.clc.line ∨
      (s.clc.line = .dormant ∧ c = .startLine ∧ (t.clc.line = .listen ∨ t.clc.line = .rising)) ∨
      ((c = .stopLine ∨ c.isReset = true) ∧ t.clc.line = .dormant) := by
  cases row with
  | taken row _ owned =>
    obtain same | ⟨line, rfl, after⟩ | ⟨rfl, after⟩ := owned_line owned
    · exact .inl same
    · exact .inr (.inl ⟨line, hostCmd_startLine row, after⟩)
    · exact .inr (.inr ⟨.inl (hostCmd_stopLine row), after⟩)
  | softReset => exact .inr (.inr ⟨.inr rfl, takeSoftReset_line⟩)
  | locked reg v => exact .inl (by rw [writeLocked_clc])
  | register _ _ held => exact .inl (by rw [held_clc held])
  | _ => exact .inl rfl

theorem lineStateMovesByTable13 : Claim.LineStateMovesByTable13 := by
  intro c s t wf sound next
  by_cases no_row : c.writeAddr = none
  · obtain same | wakes | ⟨line, settle, after⟩ | expired | ⟨reset, after⟩ :=
      happens_line sound (causeOf_ne_write no_row) (exec_happens next)
    · exact .inl same
    · exact .inr (.inr (.inl wakes))
    · exact .inr (.inr (.inr (.inl ⟨line, causeOf_eq_settle settle, after⟩)))
    · exact .inr (.inr (.inr (.inr (.inl expired))))
    · have resets : c.isReset = true := by
        obtain rfl | rfl := causeOf_eq_reset reset <;> rfl
      exact .inr (.inr (.inr (.inr (.inr ⟨.inr resets, after⟩))))
  · obtain rfl | ⟨u, rfl, row⟩ := wroteByRow wf no_row next
    · exact .inl rfl
    · obtain same | starts | stops := byRow_line row
      · exact .inl same
      · exact .inr (.inl starts)
      · exact .inr (.inr (.inr (.inr (.inr stops))))

theorem lockHoldsOutsideDormant : Claim.LockHoldsOutsideDormant := by
  intro c s t next line not_power not_pin
  have cfg := happens_cfg (exec_happens next)
  generalize t.cfg = after at cfg
  generalize cause : causeOf c = k at cfg
  cases cfg with
  | same => rfl
  | written _ _ dormant => exact absurd dormant line
  | reset =>
    obtain h | h := causeOf_eq_reset cause
    · exact absurd h not_power
    · exact absurd h not_pin

/-- Settles O58: what each event can do to the line, and, for a row of the window, what its command can. -/
theorem lineStateAndLock : Obligations.LineStateAndLock := ⟨lineStateMovesByTable13, lockHoldsOutsideDormant⟩

/-! #### The records (R90) -/

theorem Rxq.fallen_records (before : Nat) (q : Rxq) : (q.fallen before).records = q.records := by
  unfold Rxq.fallen
  split <;> rfl

theorem Rxq.commit_records (stamp : Stamp) (payload : List Byte) (q : Rxq) :
    (q.commit stamp payload).records = q.records ∨ ∃ r, (q.commit stamp payload).records = q.records ++ [r] := by
  unfold Rxq.commit
  split
  · exact .inl rfl
  · exact .inr ⟨_, rfl⟩
  · exact .inl rfl

theorem classifiedRxq_records (s : State) : s.classifiedRxq.records = s.rxq.records := by
  unfold State.classifiedRxq
  split
  · rfl
  · unfold Rxq.classified
    split <;> rfl

theorem RxqAfter.records {q q' : Rxq} (after : RxqAfter q s.classifiedRxq k q') (same : s.rxq = q)
    (not_write : k ≠ .write) :
    q'.records = q.records ∨ (∃ r, q'.records = q.records ++ [r]) ∨ (k = .reset ∧ q'.records = []) := by
  subst same
  have classified := classifiedRxq_records s
  cases after with
  | same | captured | moved => exact .inl rfl
  | classified => exact .inl classified
  | lost => exact .inl ((Rxq.fallen_records _ _).trans classified)
  | committed stamp payload =>
    rw [← classified]
    obtain same | appended := Rxq.commit_records stamp payload s.classifiedRxq
    · exact .inl same
    · exact .inr (.inl appended)
  | reset => exact .inr (.inr ⟨rfl, rfl⟩)
  | stopped | released | flushed | softReset | watermark => exact absurd rfl not_write

theorem owned_records (owned : Owned s cmd t) :
    t.rxq.records = s.rxq.records ∨ (cmd = .releaseHead ∧ t.rxq.records = s.rxq.records.tail) ∨
      (cmd = .flushQueue ∧ t.rxq.records = []) := by
  cases owned with
  | releases release => exact .inr (.inl ⟨release, Rxq.fallen_records _ _⟩)
  | flushes flush => exact .inr (.inr ⟨flush, Rxq.fallen_records _ _⟩)
  | stops => exact .inl (Rxq.fallen_records _ _)
  | _ => exact .inl (by simp)

theorem held_rxq (held : Held s t) : t.rxq = s.rxq := by cases held <;> rfl

theorem writeLocked_rxq (reg : LockedReg) (v : Byte) (s : State) : (writeLocked reg v s).rxq = s.rxq := by
  unfold writeLocked
  split <;> rfl

theorem byRow_records (row : ByRow s c t) :
    t.rxq.records = s.rxq.records ∨ (c = .releaseHead ∧ t.rxq.records = s.rxq.records.tail) ∨
      ((c = .flushQueue ∨ c.isReset = true) ∧ t.rxq.records = []) := by
  cases row with
  | taken row _ owned =>
    obtain same | ⟨rfl, after⟩ | ⟨rfl, after⟩ := owned_records owned
    · exact .inl same
    · exact .inr (.inl ⟨by cases c <;> cases row; rfl, after⟩)
    · exact .inr (.inr ⟨.inl (by cases c <;> cases row; rfl), after⟩)
  | softReset => exact .inr (.inr ⟨.inr rfl, by rw [takeSoftReset_rxq]; rfl⟩)
  | locked reg v => exact .inl (by rw [writeLocked_rxq])
  | register _ _ held => exact .inl (by rw [held_rxq held])
  | _ => exact .inl rfl

theorem isReset_of_causeOf (reset : causeOf c = .reset) : c.isReset = true := by
  obtain rfl | rfl := causeOf_eq_reset reset <;> rfl

/-- Settles O59: the only operation of the queue that adds a record is a commit's, at the end, and the rows that
take records away are RELEASE HEAD, FLUSH QUEUE and SOFT RESET. -/
theorem recordsKeepCommitOrder : Obligations.RecordsKeepCommitOrder := by
  intro c s t wf next
  by_cases no_row : c.writeAddr = none
  · obtain same | appended | ⟨reset, after⟩ :=
      (happens_rxq (exec_happens next)).records rfl (causeOf_ne_write no_row)
    · exact .inl same
    · exact .inr (.inl appended)
    · exact .inr (.inr (.inr ⟨.inr (isReset_of_causeOf reset), after⟩))
  · obtain rfl | ⟨u, rfl, row⟩ := wroteByRow wf no_row next
    · exact .inl rfl
    · obtain same | released | emptied := byRow_records row
      · exact .inl same
      · exact .inr (.inr (.inl released))
      · exact .inr (.inr (.inr emptied))

/-! #### The counters (R183, R187) -/

theorem held_ctb (held : Held s t) : t.ctb = s.ctb := by cases held <;> rfl

theorem writeLocked_ctb (reg : LockedReg) (v : Byte) (s : State) : (writeLocked reg v s).ctb = s.ctb := by
  unfold writeLocked
  split <;> rfl

theorem owned_ctb (owned : Owned s cmd t) :
    t.ctb = s.ctb ∨ (cmd = .snapshotCounters ∧ t.ctb = s.ctb.snapshot) := by
  cases owned with
  | counters counters => exact .inr ⟨counters, rfl⟩
  | _ => exact .inl (by simp)

theorem byRow_ctb (row : ByRow s c t) :
    t.ctb = s.ctb ∨ (c = .snapshotCounters ∧ t.ctb = s.ctb.snapshot) ∨
      (c = .softReset ∧ t.ctb = s.ctb.softReset s.spi.late.counts) := by
  cases row with
  | taken row _ owned =>
    obtain same | ⟨rfl, after⟩ := owned_ctb owned
    · exact .inl same
    · exact .inr (.inl ⟨by cases c <;> cases row; rfl, after⟩)
  | softReset => exact .inr (.inr ⟨rfl, takeSoftReset_ctb⟩)
  | locked reg v => exact .inl (writeLocked_ctb reg v s)
  | register _ _ held => exact .inl (held_ctb held)
  | _ => exact .inl rfl

theorem CtbAfter.rises_or_reset {b b' : Ctb} (after : CtbAfter b k b') (not_write : k ≠ .write) :
    b.live.Grown b'.live ∨ (k = .reset ∧ b'.live = .zero) := by
  cases after with
  | grown grown => exact .inl grown
  | reset => exact .inr ⟨rfl, rfl⟩
  | snapshot | softReset => exact absurd rfl not_write

theorem countersFallOnlyToZero : Claim.CountersFallOnlyToZero := by
  intro c s t k wf bounded next
  by_cases no_row : c.writeAddr = none
  · obtain grown | ⟨reset, zero⟩ :=
      (happens_ctb (exec_happens next)).rises_or_reset (causeOf_ne_write no_row)
    · exact .inl (grown k bounded).1
    · have zero_at : t.ctb.live.get k = 0 := by rw [zero, Counts.get_zero]
      obtain rfl | rfl := causeOf_eq_reset reset
      · exact .inr (.inl ⟨by simp, zero_at⟩)
      · exact .inr (.inl ⟨by simp, zero_at⟩)
  · obtain rfl | ⟨u, rfl, row⟩ := wroteByRow wf no_row next
    · exact .inl le_rfl
    · obtain same | ⟨rfl, taken⟩ | ⟨rfl, cleared⟩ := byRow_ctb row
      · exact .inl (by simp [same])
      · refine .inr (.inl ⟨by simp, ?_⟩)
        simp [taken, Ctb.snapshot, Counts.get_zero]
      · refine .inr (.inr ⟨rfl, ?_⟩)
        simp [cleared, Ctb.softReset]

/-! #### The pending flags (R149) -/

theorem Nwc.Raised.stays_recordCommit {n n' a : Nwc} {f : Flag} {urgent : Bool} (before : n.Raised a)
    (after : (a.recordCommit urgent).Raised n') (pending : f.isIn n.flags = true) : f.isIn n'.flags = true := by
  refine after.stays f ?_
  have kept := before.stays f pending
  unfold Nwc.recordCommit
  dsimp only
  repeat' split
  all_goals simp [kept]

theorem Nwc.tick_stays {n : Nwc} {f : Flag} (pending : f.isIn n.flags = true) : f.isIn n.tick.flags = true := by
  unfold Nwc.tick
  split
  · exact pending
  · split <;> simp [pending]

theorem NwcAfter.stays {n n' : Nwc} {records : Nat} {f : Flag} (after : NwcAfter n records k n')
    (not_write : k ≠ .write) (pending : f.isIn n.flags = true) : f.isIn n'.flags = true ∨ k = .reset := by
  cases after with
  | raised raised => exact .inl (raised.stays f pending)
  | committed urgent before after => exact .inl (before.stays_recordCommit after pending)
  | ticked before => exact .inl (Nwc.tick_stays (before.stays f pending))
  | captured => exact .inl pending
  | reset => exact .inr rfl
  | flushed | sleeps | wakes | cleared | enables | threshold | holdoff | softReset => exact absurd rfl not_write

theorem held_flags (held : Held s t) : t.nwc.flags = s.nwc.flags := by cases held <;> rfl

theorem writeLocked_nwc (reg : LockedReg) (v : Byte) (s : State) : (writeLocked reg v s).nwc = s.nwc := by
  unfold writeLocked
  split <;> rfl

theorem owned_stays {f : Flag} (owned : Owned s cmd t) (pending : f.isIn s.nwc.flags = true) :
    f.isIn t.nwc.flags = true := by
  cases owned <;> simp [pending, Nwc.flushed, Nwc.sleep, Nwc.awaken]

theorem Nwc.clear_stays {n : Nwc} {f : Flag} {set : FlagSet} {records : Nat} (pending : f.isIn n.flags = true)
    (kept : f.isIn set = false) : f.isIn (n.clear set records).flags = true := by
  unfold Nwc.clear Nwc.recount
  dsimp only
  repeat' split
  all_goals simp [pending, kept]

/-- The flags that a write to a register of flags names: bit 0 of the high byte is flag 8 (Table 86). -/
theorem isIn_flagsOf (f : Flag) (high : Bool) (v : Byte) :
    f.isIn (flagsOf high v) = (decide (f.bit / 8 = if high then 1 else 0) && v.getLsbD (f.bit % 8)) := by
  have lt := f.bit_lt
  cases high with
  | false =>
    by_cases low : f.bit < 8
    · simp [flagsOf, Flag.isIn, lt, Nat.div_eq_of_lt low, Nat.mod_eq_of_lt low]
    · have place : f.bit / 8 = 1 := by omega
      simp [flagsOf, Flag.isIn, place, BitVec.getLsbD_of_ge _ _ (Nat.le_of_not_lt low)]
  | true =>
    change BitVec.getLsbD (w := 2 + 8) (v.extractLsb' 0 2 ++ 0#8) f.bit = _
    rw [BitVec.getLsbD_append]
    by_cases low : f.bit < 8
    · simp [low, Nat.div_eq_of_lt low]
    · have place : f.bit / 8 = 1 := by omega
      have rest : f.bit % 8 = f.bit - 8 := by omega
      have in_high : f.bit - 8 < 2 := by omega
      simp [low, place, rest, in_high]

theorem flagsStayUntilCleared : Claim.FlagsStayUntilCleared := by
  intro c s t f wf next pending
  by_cases no_row : c.writeAddr = none
  · obtain stays | reset := (happens_nwc (exec_happens next)).stays (causeOf_ne_write no_row) pending
    · exact .inl stays
    · exact .inr (.inr (isReset_of_causeOf reset))
  · obtain rfl | ⟨u, rfl, row⟩ := wroteByRow wf no_row next
    · exact .inl pending
    · cases row with
      | taken _ _ owned => exact .inl (by simpa using owned_stays owned pending)
      | unknown => exact .inl (by simp [pending])
      | softReset => exact .inr (.inr rfl)
      | pendingClear high v =>
        cases named : f.isIn (flagsOf high v) with
        | false => exact .inl (Nwc.clear_stays pending named)
        | true =>
          rw [isIn_flagsOf, Bool.and_eq_true, decide_eq_true_eq] at named
          exact .inr (.inl ⟨high, v, rfl, named⟩)
      | locked reg v => exact .inl (by simpa [writeLocked_nwc] using pending)
      | register _ _ held => exact .inl (by simpa [held_flags held] using pending)
      | refused | cmdFlags | irqEnables | watermark => exact .inl pending

/-- Settles O60: no event but a reset and the rows that say so lowers a counter or clears a flag. -/
theorem countersAndFlagsStay : Obligations.CountersAndFlagsStay := ⟨countersFallOnlyToZero, flagsStayUntilCleared⟩

end Moves
end Sys2Proof.Machine
end

section
/-! ### The short commands of a host: refusals, the line, the slots, the host's sleep, the counters -/

namespace Sys2Proof.Machine

section Commands
variable {s s' : State} {c : Instr} {cmd : Cmd} {r : CmdResult}

/-- A command that its owner completes at its taking (R171, R174). -/
theorem exec_completes {code : Byte} (row : hostCmd c = some cmd) (coded : cmd.code = code) (takes : s.Takes)
    (ends : cmd.owner (s.cmu.capture cmd) (s.busyWith cmd) = complete r (s'.busyWith cmd)) :
    exec c s = .next ((s'.completed code r).wrote 0x07) := by
  rw [exec_of_takes row takes, ends, complete_busyWith, coded]

/-- A command that its owner keeps in flight (R171, R175). -/
theorem exec_waits (row : hostCmd c = some cmd) (takes : s.Takes)
    (waits : cmd.owner (s.cmu.capture cmd) (s.busyWith cmd) = s'.busyWith cmd) :
    exec c s = .next ((s'.busyWith cmd).wrote 0x07) := by
  rw [exec_of_takes row takes, waits]

/-! #### Unknown codes, FLUSH QUEUE, HOST SLEEP and HOST AWAKE -/

/-- Settles O43: such a code is taken by no owner. -/
theorem unknownCodeIsRefused : Obligations.UnknownCodeIsRefused := by
  intro s code takes unknown
  rw [exec_unknownCommand_of_unknown unknown, hostWrite_cmdAddr takes.1, takeUnknown_of_idle code takes.2]

theorem Rxq.used_flushed_lt {q : Rxq} (queued : q.records ≠ []) :
    { q with records := [], readPos := 0 }.used < q.used := by
  obtain ⟨oldest, rest, records⟩ := List.exists_cons_of_ne_nil queued
  have size_pos := recordSize_pos oldest.length
  simp only [Rxq.used, recordBytes, records, List.map_cons, List.sum_cons, List.map_nil, List.sum_nil]
  omega

/-- Only a queue with records has its used bytes fall at a flush (R103, R107). -/
theorem Rxq.flush_eq (q : Rxq) :
    q.flush = { q with
      records := []
      readPos := 0
      arm := q.arm || (decide (q.records ≠ []) &&
        belowLevel q.watermark { q with records := [], readPos := 0 }.used) } := by
  by_cases queued : q.records = []
  · have same : { q with records := [], readPos := 0 }.used = q.used := by simp [Rxq.used, queued]
    simp [Rxq.flush, Rxq.fallen, same, queued]
  · rw [Rxq.flush, Rxq.fallen_of_lt (Rxq.used_flushed_lt queued)]
    simp [queued]

/-- Settles O32: the flush leaves the claim, so the used bytes fall by the records alone. -/
theorem flushQueueRemovesEveryRecord : Obligations.FlushQueueRemovesEveryRecord := by
  intro s takes
  refine ⟨_, exec_completes (c := .flushQueue) (s' := (s.withRxq s.rxq.flush).withNwc s.nwc.flushed) rfl rfl takes rfl,
    ?_, ?_⟩
  · simp [Rxq.flush_eq, Nwc.flushed, State.completed, State.withRxq, State.withNwc, Cmd.code]
  · simp [Rxq.flush_eq]
    rfl

/-- Settles O40: each of the two commands in the host state it is for, and in the other. -/
theorem hostSleepsAndWakes : Obligations.HostSleepsAndWakes := by
  intro s takes
  refine ⟨fun awake => ⟨?sleeps, ?refused_awake⟩, fun asleep => ⟨?wakes, ?refused_asleep⟩⟩
  case sleeps =>
    refine exec_completes (s' := s.withNwc s.nwc.sleep) rfl rfl takes ?_
    exact if_neg (awake ▸ nofun : s.nwc.host ≠ .asleep)
  case refused_awake =>
    refine exec_completes (s' := s) rfl rfl takes ?_
    exact if_pos awake
  case wakes =>
    refine exec_completes (s' := s.withNwc s.nwc.awaken) rfl rfl takes ?_
    exact if_neg (asleep ▸ nofun : s.nwc.host ≠ .awake)
  case refused_asleep =>
    refine exec_completes (s' := s) rfl rfl takes ?_
    exact if_pos asleep

/-! #### SNAPSHOT SLOT and SET SLOT WATCH (R120, R122) -/

theorem Lvs.slotAt_of_getElem? {l : Lvs} {n : Nat} {sl : Slot} (slot : l.slots[n]? = some sl) : l.slotAt n = sl := by
  simp [Lvs.slotAt, slot]

theorem Lvs.takeSnapshot_of_slot {l : Lvs} {n : Nat} {sl : Slot} (slot : l.slots[n]? = some sl) :
    l.takeSnapshot n = { l with
      slots := l.slots.set n { sl with unread := 0, state := if sl.state = .fresh then .seen else sl.state }
      snap := some ⟨n, decide (sl.state = .empty)⟩
      winValid := false
      window := ⟨n, sl.state, sl.unread, sl.age, sl.maxAge, sl.content⟩
      readPos := 0 } := by
  simp only [Lvs.takeSnapshot, Lvs.slotAt_of_getElem? slot, Slot.taken]

theorem snapshotTakesTheSlot : Claim.SnapshotTakesTheSlot := by
  intro s takes
  refine ⟨fun beyond => ?refused, fun within sl slot => ?taken⟩
  case refused =>
    refine exec_completes (s' := s) rfl rfl takes ?_
    exact if_neg (Nat.not_lt.mpr beyond)
  case taken =>
    rw [← Lvs.takeSnapshot_of_slot slot]
    refine exec_waits (s' := s.withLvs (s.lvs.takeSnapshot s.cmu.arg.toNat)) rfl takes ?_
    exact if_pos within

theorem setSlotWatchSetsTheLimit : Claim.SetSlotWatchSetsTheLimit := by
  intro s takes
  refine ⟨fun beyond => ?refused, fun within sl slot => ?taken⟩
  case refused =>
    refine exec_completes (s' := s) rfl rfl takes ?_
    exact if_neg (Nat.not_lt.mpr beyond)
  case taken =>
    have param : (s.cmu.paramH ++ s.cmu.paramL).toNat = 256 * s.cmu.paramH.toNat + s.cmu.paramL.toNat := by
      rw [BitVec.toNat_append, Nat.shiftLeft_eq, Nat.mul_comm]
      exact (Nat.two_pow_add_eq_or_of_lt s.cmu.paramL.isLt _).symm
    have watched := exec_completes (c := .setSlotWatch) (r := .ok)
      (s' := s.withLvs (s.lvs.setWatch s.cmu.arg.toNat (s.cmu.paramH ++ s.cmu.paramL).toNat)) rfl rfl takes (if_pos within)
    rw [param, Lvs.setWatch, Lvs.slotAt_of_getElem? slot] at watched
    exact watched

/-- Settles O35: the two commands on a slot, refused from 16 on. -/
theorem slotCommandsTakeEffect : Obligations.SlotCommandsTakeEffect :=
  ⟨snapshotTakesTheSlot, setSlotWatchSetsTheLimit⟩

/-! #### SNAPSHOT COUNTERS, and an increment (R183, R185) -/

/-- Settles O46: the command, and what one increment does to its counter, the others and COUNT_SAT. -/
theorem countersCountAndAreTaken : Obligations.CountersCountAndAreTaken := by
  refine ⟨fun s takes => ?taken, fun s k n => ⟨get_countBy, fun j => get_countBy_of_ne, ?saturates, ?stands, ?rest⟩⟩
  case taken => exact exec_completes (s' := s.withCtb s.ctb.snapshot) rfl rfl takes rfl
  case saturates => exact fun ⟨below, reached⟩ => countBy_nwc_of_sat below reached
  case stands => exact countBy_nwc_of_not_sat
  case rest =>
    unfold countBy
    dsimp only
    split <;> rfl

end Commands
end Sys2Proof.Machine
end

section
/-! ### Steps, START LINE and STOP LINE, record sizes, and the state after reset -/

namespace Sys2Proof.Machine

/-! #### Steps -/

/-- Settles O1: the front command acts on the part with the rest of the queue. -/
theorem stepRunsFrontCommand : Obligations.StepRunsFrontCommand := fun _ _ _ => rfl

theorem step_of_empty {s : State} (empty : s.pending = []) : step s = .next (lclkPeriod s) := by
  simp only [step, empty]

theorem exec_tick_of_running {s : State} (running : s.inReset = false) : exec .tick s = .next (doTick s) := by
  change Host.Outcome.next (if s.inReset then s else doTick s) = _
  rw [running, if_neg Bool.false_ne_true]

theorem lclkPeriod_of_below {s : State} (running : s.inReset = false)
    (below : s.tkg.prescale + 1 < tickPeriod s.cfg.tickShift) :
    lclkPeriod s = s.withTkg { s.tkg with prescale := s.tkg.prescale + 1 } := by
  unfold lclkPeriod
  rw [if_neg (by simp [running]), if_neg (Nat.not_le.mpr below)]

theorem lclkPeriod_of_reached {s : State} (running : s.inReset = false)
    (reached : tickPeriod s.cfg.tickShift ≤ s.tkg.prescale + 1) : lclkPeriod s = doTick s := by
  unfold lclkPeriod
  rw [if_neg (by simp [running]), if_pos reached]

/-- Settles O2: the prescale count, and at the tick period the tick. -/
theorem emptyQueueIsOneClockPeriod : Obligations.EmptyQueueIsOneClockPeriod := by
  intro s empty
  rw [step_of_empty empty]
  refine ⟨fun held => ?held, fun running below => ?counts, fun running reached => ?ticks⟩
  case held => simp [lclkPeriod, held]
  case counts =>
    rw [lclkPeriod_of_below running below]
    rfl
  case ticks => rw [exec_tick_of_running running, lclkPeriod_of_reached running reached]

section Queue
variable {s t u e : State} {cmd : Cmd} {k : Cause}

theorem ended_pending (ended : Ended e u) : u.pending = e.pending := by cases ended <;> simp

theorem written_pending (written : Written s t) : t.pending = s.pending := by
  cases written with
  | taken _ owned => cases owned <;> simp
  | softReset => simp
  | _ => rfl

/-- No event adds to the queue of commands or removes from it. -/
theorem happens_pending (happens : Happens s k t) : t.pending = s.pending := by
  cases happens with
  | reset => rfl
  | character _ level ended => simp [ended_pending ended]
  | written _ w => simpa using written_pending w
  | select => rw [selectPort_eq]; rfl
  | deselect => rw [deselectPort_eq]; rfl
  | commandByte => rw [commandLoaded_eq]; rfl
  | arrivals => rw [noteArrivals_eq]; rfl
  | _ => simp

end Queue

theorem exec_next (c : Instr) (s : State) : ∃ t, exec c s = .next t := by
  cases c <;> exact ⟨_, rfl⟩

/-- Settles O3: every row gives a next state, and no event moves the queue. -/
theorem everyCommandHasANextState : Obligations.EveryCommandHasANextState := by
  intro c s
  obtain ⟨t, next⟩ := exec_next c s
  exact ⟨t, next, happens_pending (exec_happens next)⟩

/-! #### START LINE and STOP LINE (R6, R7, R13, R146) -/

section Line
variable {s : State}

theorem enterListen_of_high (high : s.lrx = true) : enterListen s = s.withClc ⟨.listen, none, none⟩ := by
  simp [enterListen, high]

theorem enterListen_of_low (low : s.lrx = false) : enterListen s = enterRising s := by
  simp [enterListen, low]

/-- The end of a claim is a fall of the used bytes where the claim has space (R96, R107). -/
theorem Rxq.abandon_eq (q : Rxq) :
    q.abandon = { q with
      claim := .nothing
      arm := q.arm || (decide (q.claim.size ≠ 0) && belowLevel q.watermark { q with claim := .nothing }.used) } := by
  have used : q.used = { q with claim := .nothing }.used + q.claim.size := by simp [Rxq.used, Claim.size]
  by_cases reserved : q.claim.size = 0
  · have same : { q with claim := .nothing }.used = q.used := by omega
    simp [Rxq.abandon, Rxq.fallen, same, reserved]
  · have fell : { q with claim := .nothing }.used < q.used := by omega
    rw [Rxq.abandon, Rxq.fallen_of_lt fell]
    simp [reserved]

/-- The part with the line stopped and the watermark arm as given (R13). -/
def State.stoppedLine (arm : Bool) (s : State) : State :=
  { s with
    clc := ⟨.dormant, none, none⟩
    lrv := .off
    srt := { s.srt with inHand := none }
    acf := { s.acf with job := none, held := none }
    rxq := { s.rxq with claim := .nothing, arm := arm }
    lvs := { s.lvs with held := none }
    rsp := ⟨.idle, none⟩ }

theorem stopTheLine_eq (s : State) :
    stopTheLine s = s.stoppedLine (s.rxq.arm || (decide (s.rxq.claim.size ≠ 0) &&
      belowLevel s.rxq.watermark { s.rxq with claim := .nothing }.used)) := by
  apply State.ext_blocks <;> simp [stopTheLine, State.stoppedLine, Rxq.abandon_eq]

theorem startLine_refused_state (takes : s.Takes) (line : s.clc.line ≠ .dormant) :
    exec .startLine s = .next ((s.completed 0x10 .state).wrote 0x07) := by
  refine exec_completes (s' := s) rfl rfl takes ?_
  exact if_pos line

theorem startLine_refused_arg (takes : s.Takes) (line : s.clc.line = .dormant) (own : s.cfg.ownAddress = 0) :
    exec .startLine s = .next ((s.completed 0x10 .arg).wrote 0x07) := by
  refine exec_completes (s' := s) rfl rfl takes ?_
  exact (if_neg (not_not_intro line)).trans (if_pos own)

theorem startLine_rising (takes : s.Takes) (line : s.clc.line = .dormant) (own : s.cfg.ownAddress ≠ 0)
    (at_once : s.cfg.idleHold = 0 ∨ s.lrx = false) :
    exec .startLine s = .next (((enterRising s).completed 0x10 .ok).wrote 0x07) := by
  refine exec_completes (s' := enterRising s) rfl rfl takes ?_
  refine (if_neg (not_not_intro line)).trans ((if_neg own).trans ?_)
  by_cases holds : s.cfg.idleHold = 0
  · exact if_pos holds
  · have low : (s.busyWith .startLine).lrx = false := at_once.resolve_left holds
    refine (if_neg holds).trans ?_
    rw [enterListen_of_low low]
    rfl

theorem startLine_listen (takes : s.Takes) (line : s.clc.line = .dormant) (own : s.cfg.ownAddress ≠ 0)
    (holds : s.cfg.idleHold ≠ 0) (high : s.lrx = true) :
    exec .startLine s = .next (((s.withClc ⟨.listen, none, none⟩).completed 0x10 .ok).wrote 0x07) := by
  refine exec_completes (s' := s.withClc ⟨.listen, none, none⟩) rfl rfl takes ?_
  refine (if_neg (not_not_intro line)).trans ((if_neg own).trans ((if_neg holds).trans ?_))
  have high' : (s.busyWith .startLine).lrx = true := high
  rw [enterListen_of_high high']
  rfl

theorem stopLine_refused (takes : s.Takes) (line : s.clc.line = .dormant) :
    exec .stopLine s = .next ((s.completed 0x11 .state).wrote 0x07) := by
  refine exec_completes (s' := s) rfl rfl takes ?_
  exact if_pos line

theorem stopLine_stops (takes : s.Takes) (line : s.clc.line ≠ .dormant) :
    exec .stopLine s = .next (((stopTheLine s).completed 0x11 .ok).wrote 0x07) := by
  refine exec_completes (s' := stopTheLine s) rfl rfl takes ?_
  exact if_neg line

end Line

/-- Settles O44: the two commands in each line state, with the conditions START LINE looks at in its order. -/
theorem lineIsStartedAndStopped : Obligations.LineIsStartedAndStopped := by
  intro s takes
  refine ⟨startLine_refused_state takes, fun line => ⟨startLine_refused_arg takes line,
    fun own holds high => startLine_listen takes line own holds high,
    fun own at_once => startLine_rising takes line own at_once, stopLine_refused takes line⟩, fun line => ?_⟩
  have stops := stopLine_stops takes line
  rw [stopTheLine_eq] at stops
  exact ⟨_, stops, rfl, rfl, fun _ => rfl, rfl, rfl, rfl⟩

/-! #### Record sizes (R87, R88) -/

/-- Settles O29: payloads in words of four bytes, the table of how many records fit, and the shares of 4096. -/
theorem recordSizes : Obligations.RecordSizes := by
  refine ⟨fun n le => ?sizes, by decide, fun q => ⟨?used, rfl⟩⟩
  case sizes =>
    unfold recordSize
    split <;> omega
  case used =>
    cases claim : q.claim <;> simp [Rxq.used, recordBytes, claim, Claim.size]

/-! #### The invariants after reset -/

theorem reset_rests : State.reset.Rests where
  line := by decide
  settle := by decide
  off := rfl
  idle := rfl
  nothing := ⟨rfl, rfl, rfl, rfl, rfl, rfl⟩
  stopped := rfl

theorem reset_lineSound : State.reset.LineSound := reset_rests.lineSound

theorem reset_commandWaits : State.reset.CommandWaits := ⟨nofun, fun copying => absurd rfl copying⟩

theorem reset_mitigationSound : State.reset.MitigationSound :=
  ⟨by decide, by decide, by decide, by decide, by decide, nofun⟩

/-- Settles O52: the state after reset holds nothing and counts nothing. -/
theorem invariantsHoldAtReset : Obligations.InvariantsHoldAtReset :=
  ⟨Nat.zero_le _, ⟨List.length_replicate, List.length_replicate, List.length_replicate⟩,
    ⟨Nat.zero_le _, List.nodup_nil⟩, reset_lineSound, reset_commandWaits, reset_mitigationSound,
    ⟨Lvs.reset_sound.each, Lvs.reset_sound.held_back, Lvs.reset_sound.copied⟩, ⟨Nat.zero_le _, nofun⟩,
    fun k _ => (Counts.get_zero k).trans_le (Nat.zero_le _), Nat.zero_le _,
    ⟨fun opened => absurd rfl opened, fun _ => rfl, Nat.zero_le _, Nat.zero_le _⟩⟩

end Sys2Proof.Machine
end

section
/-! ### The register writes of a host (R150, R152, R156, R159, R170, R178, R189, R192) -/

namespace Sys2Proof.Machine

section Writes
variable {s : State} {addr next : RegAddr} {effect : State → State} {v : Byte} {high : Bool}

/-- A data byte outside the data ports has its effect, and leaves the pointer at the next address (R189). -/
theorem hostWrite_at (writes : s.WritesAt addr) (not_port : isDataPort s addr = false) (follows : addr + 1 = next) :
    hostWrite addr effect s = (effect s).wrote next := by
  rw [hostWrite_of_WritesAt s effect writes, ptrAfter_of_not_dataPort s not_port, follows]
  rfl

theorem not_isDataPort (queue : addr ≠ 0x2C) (slot : addr ≠ 0x5E) : isDataPort s addr = false := by
  rw [Bool.eq_false_iff, ne_eq, isDataPort_iff]
  rintro (at_queue | ⟨at_slot, -⟩)
  · exact queue at_queue
  · exact slot at_slot

/-! #### PENDING (R150, R159) -/

section Clear
variable {n : Nwc} {set : FlagSet} {records : Nat}

theorem Nwc.clear_of_not_rx (stands : ¬(Flag.rx.isIn n.flags = true ∧ Flag.rx.isIn set = true)) :
    n.clear set records = { n with flags := n.flags &&& ~~~set } := by
  simp only [Nwc.clear]
  rw [if_neg stands]

theorem Nwc.clear_of_rx (pending : Flag.rx.isIn n.flags = true) (cleared : Flag.rx.isIn set = true) :
    n.clear set records = { n with flags := n.flags &&& ~~~set }.recount records := by
  simp only [Nwc.clear]
  rw [if_pos ⟨pending, cleared⟩]

theorem Nwc.recount_of_reached (reached : n.rxThreshold ≤ records) :
    n.recount records = { n with u := records, holdOff := none }.raise .rx := by
  simp only [Nwc.recount]
  rw [if_pos reached]

theorem Nwc.recount_of_below (below : records < n.rxThreshold) :
    n.recount records = { n with
      u := records
      holdOff := if records = 0 ∨ n.rxHoldoff = 0 then none else some n.rxHoldoff } := by
  simp only [Nwc.recount]
  rw [if_neg (Nat.not_le.mpr below)]
  by_cases none_queued : records = 0
  · simp [none_queued]
  · simp [none_queued, Nwc.loadedHoldOff]

theorem Nwc.clear_of_reached (pending : Flag.rx.isIn n.flags = true) (cleared : Flag.rx.isIn set = true)
    (reached : n.rxThreshold ≤ records) :
    n.clear set records = { n with flags := n.flags &&& ~~~set, u := records, holdOff := none }.raise .rx := by
  rw [Nwc.clear_of_rx pending cleared]
  exact Nwc.recount_of_reached (n := { n with flags := n.flags &&& ~~~set }) reached

theorem Nwc.clear_of_below (pending : Flag.rx.isIn n.flags = true) (cleared : Flag.rx.isIn set = true)
    (below : records < n.rxThreshold) :
    n.clear set records = { n with
      flags := n.flags &&& ~~~set
      u := records
      holdOff := if records = 0 ∨ n.rxHoldoff = 0 then none else some n.rxHoldoff } := by
  rw [Nwc.clear_of_rx pending cleared]
  exact Nwc.recount_of_below (n := { n with flags := n.flags &&& ~~~set }) below

/-- The re-count moves no flag but RX. -/
theorem Nwc.isIn_recount {f : Flag} (ne : f ≠ .rx) : f.isIn (n.recount records).flags = f.isIn n.flags := by
  by_cases reached : n.rxThreshold ≤ records
  · rw [Nwc.recount_of_reached reached]
    simp [ne]
  · rw [Nwc.recount_of_below (Nat.lt_of_not_le reached)]

theorem Nwc.isIn_clear {f : Flag} (ne : f ≠ .rx) :
    f.isIn (n.clear set records).flags = (f.isIn n.flags && !f.isIn set) := by
  by_cases cleared : Flag.rx.isIn n.flags = true ∧ Flag.rx.isIn set = true
  · rw [Nwc.clear_of_rx cleared.1 cleared.2, Nwc.isIn_recount ne]
    simp
  · rw [Nwc.clear_of_not_rx cleared]
    simp

theorem Nwc.clear_frame : n.clear set records = { n with
    flags := (n.clear set records).flags, wakeCause := (n.clear set records).wakeCause
    u := (n.clear set records).u, holdOff := (n.clear set records).holdOff } := by
  unfold Nwc.clear Nwc.recount
  dsimp only
  repeat' split
  all_goals rfl

end Clear

theorem exec_pendingClear (writes : s.WritesAt (if high then 0x0C else 0x0B)) :
    exec (.pendingClear high v) s = .next ((clearPending high v s).wrote (if high then 0x0D else 0x0C)) := by
  cases high <;>
    exact congrArg Host.Outcome.next (hostWrite_at writes (not_isDataPort (by decide) (by decide)) rfl)

/-- Settles O39: the flags one by one, and the re-count on both sides of the threshold. -/
theorem pendingClearRecounts : Obligations.PendingClearRecounts := by
  intro s high v writes
  dsimp only
  simp only [← isIn_flagsOf]
  refine ⟨_, exec_pendingClear writes, fun f ne => Nwc.isIn_clear ne, fun stands => ?stands,
    fun pending cleared => ?recounts, ?frame⟩
  case stands =>
    have cleared : ((clearPending high v s).wrote (if high then 0x0D else 0x0C)).nwc =
        { s.nwc with flags := s.nwc.flags &&& ~~~flagsOf high v } := Nwc.clear_of_not_rx stands
    rw [cleared]
    refine ⟨rfl, ?_⟩
    rw [not_and, Bool.not_eq_true] at stands
    cases pending : Flag.rx.isIn s.nwc.flags with
    | false => simp [pending]
    | true => simp [pending, stands pending]
  case recounts =>
    have recounted : ((clearPending high v s).wrote (if high then 0x0D else 0x0C)).nwc =
        s.nwc.clear (flagsOf high v) s.rxq.records.length := rfl
    rw [recounted]
    refine ⟨?_, fun reached => ?_, fun below => ?_⟩
    · obtain below | reached := Nat.lt_or_ge s.rxq.records.length s.nwc.rxThreshold
      · rw [Nwc.clear_of_below pending cleared below]
      · rw [Nwc.clear_of_reached pending cleared reached]; rfl
    · rw [Nwc.clear_of_reached pending cleared reached]
      exact ⟨by simp, rfl, rfl⟩
    · rw [Nwc.clear_of_below pending cleared below]
      exact ⟨by simp [cleared], rfl, rfl⟩
  case frame =>
    have kept : (clearPending high v s).nwc = _ := Nwc.clear_frame (n := s.nwc) (set := flagsOf high v)
      (records := s.rxq.records.length)
    rw [clearPending, State.withNwc_nwc] at kept
    rw [clearPending, kept]
    rfl

/-! #### IRQ enables, CMD_FLAGS and WATERMARK (R106, R108, R152, R178) -/

theorem isIn_flagsReplace (f : Flag) (high : Bool) (v : Byte) (old : FlagSet) :
    f.isIn (flagsReplace high v old) =
      if f.bit / 8 = (if high then 1 else 0) then v.getLsbD (f.bit % 8) else f.isIn old := by
  have lt := f.bit_lt
  have place : f.bit / 8 = 1 ↔ ¬f.bit < 8 := by omega
  cases high with
  | false =>
    change BitVec.getLsbD (w := 2 + 8) (old.extractLsb' 8 2 ++ v) f.bit = _
    rw [BitVec.getLsbD_append]
    by_cases low : f.bit < 8
    · simp [low, Nat.div_eq_of_lt low, Nat.mod_eq_of_lt low]
    · have in_high : f.bit - 8 < 2 := by omega
      have back : 8 + (f.bit - 8) = f.bit := by omega
      simp [low, place.mpr low, in_high, back, Flag.isIn]
  | true =>
    change BitVec.getLsbD (w := 2 + 8) (v.extractLsb' 0 2 ++ old.extractLsb' 0 8) f.bit = _
    rw [BitVec.getLsbD_append]
    by_cases low : f.bit < 8
    · simp [low, Nat.div_eq_of_lt low, Flag.isIn]
    · have in_high : f.bit - 8 < 2 := by omega
      have rest : f.bit % 8 = f.bit - 8 := by omega
      simp [low, place.mpr low, in_high, rest]

theorem irqEnablesAreReplaced : Claim.IrqEnablesAreReplaced := by
  intro s high v writes
  have runs : exec (.irqEnWrite high v) s = .next ((writeIrqEn high v s).wrote (if high then 0x0F else 0x0E)) := by
    cases high <;>
      exact congrArg Host.Outcome.next (hostWrite_at writes (not_isDataPort (by decide) (by decide)) rfl)
  exact ⟨_, runs, fun f => isIn_flagsReplace f high v s.nwc.irqEn, rfl⟩

theorem cmdFlagsAreClearedByOnes : Claim.CmdFlagsAreClearedByOnes := fun _ _ writes =>
  congrArg Host.Outcome.next (hostWrite_at writes (not_isDataPort (by decide) (by decide)) rfl)

theorem min_watermark (v : Byte) : min v.toNat 64 = if 65 ≤ v.toNat then 64 else v.toNat := by
  split <;> omega

theorem watermarkWriteSetsTheArm : Claim.WatermarkWriteSetsTheArm := by
  intro s v writes
  have runs : exec (.watermarkWrite v) s = .next ((writeWatermark v s).wrote 0x34) :=
    congrArg Host.Outcome.next (hostWrite_at writes (not_isDataPort (by decide) (by decide)) rfl)
  rw [runs, writeWatermark, Rxq.writeWatermark, min_watermark]
  rfl

/-- Settles O47: the three writes, the enables flag by flag. -/
theorem enableFlagAndWatermarkWrites : Obligations.EnableFlagAndWatermarkWrites :=
  ⟨irqEnablesAreReplaced, cmdFlagsAreClearedByOnes, watermarkWriteSetsTheArm⟩

end Writes
end Sys2Proof.Machine
end

section
/-! ### The writes at the addresses without a row of their own (R64, R75, R152, R156, R170, R189, R192) -/

namespace Sys2Proof.Machine

section Writes
variable {s t : State} {addr next : RegAddr} {v : Byte}

theorem exec_registerWrite (writes : s.WritesAt addr) (not_port : isDataPort s addr = false) (follows : addr + 1 = next)
    (held : writeReg addr v s = t) : exec (.registerWrite addr v) s = .next (t.wrote next) :=
  held ▸ congrArg Host.Outcome.next (hostWrite_at writes not_port follows)

/-- At a data port the pointer stays (R191). -/
theorem exec_registerWrite_of_port (writes : s.WritesAt addr) (port : isDataPort s addr = true)
    (ignored : writeReg addr v s = s) : exec (.registerWrite addr v) s = .next (s.wrote addr) := by
  have runs : hostWrite addr (writeReg addr v) s = s.wrote addr := by
    rw [hostWrite_of_WritesAt s _ writes, ignored, ptrAfter_of_dataPort s port]
    rfl
  exact congrArg Host.Outcome.next runs

theorem writeReg_of_common (common : addr.toNat < 0x40) : writeReg addr v s = writeCommon addr.toNat v s := if_pos common

theorem writeReg_of_paged (paged : 0x40 ≤ addr.toNat) : writeReg addr v s = writePaged addr.toNat v s :=
  if_neg (Nat.not_lt.mpr paged)

theorem writePaged_of_page0 {a : Nat} (page : s.spi.page = 0) :
    writePaged a v s = s.withAcf { s.acf with hash := s.acf.hash.set (a - 0x40) v } := if_pos page

theorem writePaged_of_page1 {a : Nat} (page : s.spi.page = 1) :
    writePaged a v s = s.withAcf { s.acf with staging := writeStaging a v s.acf.staging } :=
  (if_neg (by rw [page]; decide)).trans (if_pos page)

theorem writePaged_of_page_ge {a : Nat} (page : 2 ≤ s.spi.page.toNat) : writePaged a v s = s := by
  have not_page (p : BitVec 2) (low : p.toNat < 2) : s.spi.page ≠ p := by
    rintro rfl
    exact absurd page (Nat.not_le.mpr low)
  exact (if_neg (not_page 0 (by decide))).trans (if_neg (not_page 1 (by decide)))

/-- The addresses of the common area that a write reaches. -/
def writtenAddresses : List Nat :=
  [0x02, 0x03, 0x04, 0x05, 0x06, 0x0A, 0x0B, 0x0C, 0x0D, 0x0E, 0x0F, 0x10, 0x13, 0x14, 0x17, 0x18, 0x19, 0x1A,
    0x1B, 0x1C, 0x1D, 0x33]

theorem writeCommon_of_ignored {a : Nat} (ignored : a ∉ writtenAddresses) : writeCommon a v s = s := by
  unfold writeCommon
  split
  case h_23 => rfl
  all_goals exact absurd (by decide) ignored

theorem writeStaging_of_ignored {a : Nat} {g : Staging} (beyond : 0x47 ≤ a) : writeStaging a v g = g := by
  unfold writeStaging
  split
  case h_8 => rfl
  all_goals omega

theorem heldThreshold_eq (v : Byte) :
    heldThreshold v = if v = 0 then 1 else if 17 ≤ v.toNat then 16 else v.toNat := by
  have zero : v = 0 ↔ v.toNat = 0 := by rw [← BitVec.toNat_inj]; rfl
  unfold heldThreshold
  split
  · next isZero => rw [zero.mp isZero]; rfl
  · next notZero =>
    have pos : v.toNat ≠ 0 := mt zero.mpr notZero
    split <;> omega

theorem ne_of_paged (paged : 0x40 ≤ addr.toNat) : addr ≠ 0x2C := by
  rintro rfl
  exact absurd paged (by decide)

theorem not_isDataPort_of_page (paged : 0x40 ≤ addr.toNat) (page : s.spi.page ≠ 1) : isDataPort s addr = false := by
  rw [Bool.eq_false_iff, ne_eq, isDataPort_iff]
  rintro (at_queue | ⟨-, page1⟩)
  · exact ne_of_paged paged at_queue
  · exact page page1

/-- Settles O49: address by address, what the owner holds; and the addresses that ignore the byte. -/
theorem registerWritesAreHeld : Obligations.RegisterWritesAreHeld := by
  intro s v running writing
  have common {addr next : RegAddr} {t : State} (queue : addr ≠ 0x2C) (slot : addr ≠ 0x5E) (follows : addr + 1 = next)
      (held : writeReg addr v s = t) (ptr : s.spi.ptr = addr) :
      exec (.registerWrite addr v) s = .next (t.wrote next) :=
    exec_registerWrite ⟨running, writing, ptr⟩ (not_isDataPort queue slot) follows held
  refine ⟨common (by decide) (by decide) rfl rfl, common (by decide) (by decide) rfl rfl,
    common (by decide) (by decide) rfl rfl, common (by decide) (by decide) rfl rfl,
    common (by decide) (by decide) rfl rfl, common (by decide) (by decide) rfl rfl,
    ?threshold, common (by decide) (by decide) rfl rfl, ?queuePort, ?ignored, ?page0, ?page1, ?beyond⟩
  case threshold =>
    rw [← heldThreshold_eq]
    exact common (by decide) (by decide) rfl rfl
  case queuePort =>
    exact fun ptr => exec_registerWrite_of_port ⟨running, writing, ptr⟩ ((isDataPort_iff s _).mpr (.inl rfl)) rfl
  case ignored =>
    intro addr listed ptr
    have facts : ∀ a ∈ [0x00, 0x01, 0x07, 0x08, 0x09, 0x11, 0x12, 0x15, 0x16, 0x1E, 0x1F, 0x20,
        0x21, 0x22, 0x23, 0x24, 0x25, 0x26, 0x27, 0x28, 0x29, 0x2A, 0x2B, 0x2D, 0x2E, 0x2F, 0x30, 0x31,
        0x32, 0x34, 0x35, 0x36, 0x37, 0x38, 0x39, 0x3A, 0x3B, 0x3C, 0x3D, 0x3E, 0x3F],
        a < 0x40 ∧ a ≠ 0x2C ∧ a ∉ writtenAddresses := by decide
    obtain ⟨low, not_queue, ignored⟩ := facts _ listed
    refine common (fun same => not_queue (congrArg BitVec.toNat same)) (fun same => ?_) rfl ?_ ptr
    · rw [same] at low
      exact absurd low (by decide)
    · rw [writeReg_of_common low, writeCommon_of_ignored ignored]
  case page0 =>
    intro page addr paged ptr
    refine exec_registerWrite ⟨running, writing, ptr⟩ (not_isDataPort_of_page paged (by simp [page])) rfl ?_
    rw [writeReg_of_paged paged, writePaged_of_page0 page]
    rfl
  case page1 =>
    intro page
    have staged {addr next : RegAddr} {g : Staging} (paged : 0x40 ≤ addr.toNat) (slot : addr ≠ 0x5E)
        (follows : addr + 1 = next) (held : writeStaging addr.toNat v s.acf.staging = g) (ptr : s.spi.ptr = addr) :
        exec (.registerWrite addr v) s = .next (({ s with acf := { s.acf with staging := g } } : State).wrote next) := by
      refine exec_registerWrite ⟨running, writing, ptr⟩ (not_isDataPort (ne_of_paged paged) slot) follows ?_
      rw [writeReg_of_paged paged, writePaged_of_page1 page, held]
      rfl
    refine ⟨staged (by decide) (by decide) rfl rfl, staged (by decide) (by decide) rfl rfl,
      staged (by decide) (by decide) rfl rfl, staged (by decide) (by decide) rfl rfl,
      staged (by decide) (by decide) rfl rfl, staged (by decide) (by decide) rfl rfl,
      staged (by decide) (by decide) rfl rfl, fun ptr => ?_, fun addr beyond not_port ptr => ?_⟩
    · refine exec_registerWrite_of_port ⟨running, writing, ptr⟩ ((isDataPort_iff s _).mpr (.inr ⟨rfl, page⟩)) ?_
      rw [writeReg_of_paged (by decide), writePaged_of_page1 page, writeStaging_of_ignored (by decide)]
      rfl
    · exact staged (by omega) not_port rfl (writeStaging_of_ignored beyond) ptr
  case beyond =>
    intro page addr paged ptr
    refine exec_registerWrite ⟨running, writing, ptr⟩ (not_isDataPort_of_page paged ?_) rfl ?_
    · intro page1
      rw [page1] at page
      exact absurd page (by decide)
    · rw [writeReg_of_paged paged, writePaged_of_page_ge page]

end Writes
end Sys2Proof.Machine
end

section
/-! ### The events of the line, each where its condition holds and where it does not -/

namespace Sys2Proof.Machine

/-! #### The idle hold after a line event (R11) -/

/-- The idle-hold countdown as a line event leaves it (R11). -/
def State.syncedIdle (s : State) : Option Nat :=
  if s.idleHolds then (if s.clc.idleCount = none then s.loadedIdle else s.clc.idleCount) else none

theorem syncIdle_eq (s : State) : syncIdle s = s.withClc { s.clc with idleCount := s.syncedIdle } := by
  unfold syncIdle State.syncedIdle
  split
  · split
    · rfl
    · rfl
  · rfl

@[simp] theorem syncIdle_clc (s : State) : (syncIdle s).clc = { s.clc with idleCount := s.syncedIdle } := by
  rw [syncIdle_eq]; rfl

theorem syncIdle_ctb (s : State) : (syncIdle s).ctb = s.ctb := by simp

theorem syncIdle_acf (s : State) : (syncIdle s).acf = s.acf := by simp

theorem syncIdle_rsp (s : State) : (syncIdle s).rsp = s.rsp := by simp

theorem syncIdle_nwc (s : State) : (syncIdle s).nwc = s.nwc := by simp

theorem syncIdle_cmu (s : State) : (syncIdle s).cmu = s.cmu := by simp

section Idle
variable {s : State}

theorem loadedIdle_eq (s : State) :
    s.loadedIdle = if s.cfg.idleHold = 0 then none else some s.cfg.idleHold.toNat := rfl

theorem syncedIdle_of_not_hunt (rx : s.lrv.rx ≠ .hunt) : s.syncedIdle = none := by
  have stopped : s.idleHolds = false := by
    rw [← Bool.not_eq_true, idleHolds_iff]
    exact fun holds => rx holds.1.2
  simp [State.syncedIdle, stopped]

theorem syncedIdle_of_busy (busy : s.rsp.state ≠ .idle) : s.syncedIdle = none := by
  have stopped : s.idleHolds = false := by
    rw [← Bool.not_eq_true, idleHolds_iff]
    exact fun holds => busy holds.2
  simp [State.syncedIdle, stopped]

theorem syncedIdle_of_loads (line : s.clc.line = .active) (rx : s.lrv.rx = .hunt) (idle : s.rsp.state = .idle)
    (none_runs : s.clc.idleCount = none) :
    s.syncedIdle = if s.cfg.idleHold = 0 then none else some s.cfg.idleHold.toNat := by
  have holds : s.idleHolds = true := idleHolds_iff.mpr ⟨⟨line, rx⟩, idle⟩
  rw [State.syncedIdle, if_pos holds, if_pos none_runs, loadedIdle_eq]

end Idle

/-! #### Characters that end (R17, R22, R23, R25, R30, R36) -/

section Characters
variable {s : State} {b : Byte} {stop level : Bool} {rx : RxState}

theorem characterEnd_of_busy (busy : s.lrv.charBusy = true) (idle : s.rsp.state = .idle) :
    characterEnd b stop level s = syncIdle (receiveChar b stop (endCharacter level s)) := by
  have same : (endCharacter level s).rsp.state = .idle := idle
  unfold characterEnd
  dsimp only
  rw [if_pos busy, same]

theorem characterEnd_of_sending {chars : List Byte} {done : Nat} (busy : s.lrv.charBusy = true)
    (sending : s.rsp.state = .sending chars done) :
    characterEnd b stop level s = syncIdle (readbackChar b stop chars done (endCharacter level s)) := by
  have same : (endCharacter level s).rsp.state = .sending chars done := sending
  unfold characterEnd
  dsimp only
  rw [if_pos busy, same]

theorem characterEnd_of_free (free : s.lrv.charBusy = false) :
    characterEnd b stop level s = if level then risingEdge s else s := by
  unfold characterEnd
  rw [if_neg (by simp [free])]

theorem receiveChar_of_hunt (hunt : s.lrv.rx = .hunt) (framed : s.lrv.mode = .framed) :
    receiveChar b stop s = huntChar b stop s := by
  simp only [receiveChar, hunt, framed, if_true]

theorem receiveChar_of_header (header : s.lrv.rx = .header) : receiveChar b true s = headerChar b s := by
  simp only [receiveChar, header, if_true]

theorem receiveChar_of_header_low (header : s.lrv.rx = .header) :
    receiveChar b false s = loseToSkip .framingErrors s := by
  simp only [receiveChar, header, Bool.false_eq_true, if_false]

theorem receiveChar_of_body (body : s.lrv.rx = .body) :
    receiveChar b true s = bodyChar b (finishClassification s) := by
  simp only [receiveChar, body, if_true]

theorem receiveChar_of_body_low (body : s.lrv.rx = .body) :
    receiveChar b false s = loseToSkip .framingErrors (finishClassification s) := by
  simp only [receiveChar, body, Bool.false_eq_true, if_false]

theorem receiveChar_of_no_frame (off : s.lrv.rx = .off ∨ s.lrv.rx = .skip ∨ s.lrv.rx = .stuck) :
    receiveChar b stop s = s := by
  rcases off with h | h | h <;> simp only [receiveChar, h]

/-- A character that ends in HUNT, SKIP or STUCK reaches no command (R22, R32). -/
theorem receiveChar_cmu_of_no_frame (no_frame : s.lrv.rx ≠ .header ∧ s.lrv.rx ≠ .body) :
    (receiveChar b stop s).cmu = s.cmu := by
  unfold receiveChar
  split
  · split
    · simp
    · rfl
  · next header => exact absurd header no_frame.1
  · next body => exact absurd body no_frame.2
  all_goals rfl

/-- The byte that comes next is a payload byte or the first check character (R25). -/
def FrameBuffer.Open (buf : FrameBuffer) : Prop :=
  ¬((headerOf buf.hdr).length ≤ buf.payload.length ∧ 1 ≤ buf.checks)

theorem bodyChar_of_payload (more : s.lrv.buffer.payload.length < (headerOf s.lrv.buffer.hdr).length) :
    bodyChar b s = s.withLrv { s.lrv with buffer := { s.lrv.buffer with
      payload := s.lrv.buffer.payload ++ [b], crc := crcByte s.lrv.buffer.crc b } } := by
  unfold bodyChar
  dsimp only
  rw [if_pos more]

theorem bodyChar_of_check (full : (headerOf s.lrv.buffer.hdr).length ≤ s.lrv.buffer.payload.length)
    (first : s.lrv.buffer.checks = 0) :
    bodyChar b s = s.withLrv { s.lrv with buffer := { s.lrv.buffer with
      checks := 1, crc := crcByte s.lrv.buffer.crc b } } := by
  unfold bodyChar
  dsimp only
  rw [if_neg (Nat.not_lt.mpr full), if_neg (by simp [first])]
  simp [first]

theorem bodyChar_of_last (full : (headerOf s.lrv.buffer.hdr).length ≤ s.lrv.buffer.payload.length)
    (last : 1 ≤ s.lrv.buffer.checks) :
    bodyChar b s = checkComplete (s.withLrv { s.lrv with buffer := { s.lrv.buffer with
      checks := s.lrv.buffer.checks + 1, crc := crcByte s.lrv.buffer.crc b } }) := by
  unfold bodyChar
  dsimp only
  rw [if_neg (Nat.not_lt.mpr full), if_pos (by simpa using last)]

theorem bodyChar_cmu_of_open (opened : s.lrv.buffer.Open) : (bodyChar b s).cmu = s.cmu := by
  by_cases full : (headerOf s.lrv.buffer.hdr).length ≤ s.lrv.buffer.payload.length
  · have first : s.lrv.buffer.checks = 0 := by
      by_contra later
      exact opened ⟨full, Nat.one_le_iff_ne_zero.mpr later⟩
    rw [bodyChar_of_check full first]
    rfl
  · rw [bodyChar_of_payload (Nat.lt_of_not_le full)]
    rfl

/-- A source command that waits is no entry command, so a classification completion leaves it waiting. -/
theorem finishClassification_cmu_of_sourceWaits (waits : s.sourceWaits = true) :
    (finishClassification s).cmu = s.cmu := by
  obtain ⟨f, busy, source⟩ := sourceWaits_iff.mp waits
  have not_entry : f.cmd.isEntry = false := by
    cases h : f.cmd <;> simp [h, Cmd.isSource, Cmd.isEntry] at source ⊢
  cases job : s.acf.job with
  | none => rw [finishClassification_of_none job]
  | some j =>
    rw [finishClassification_eq job]
    simp [State.entryRun, busy, not_entry]

end Characters

end Sys2Proof.Machine
end

section
/-! ### Commands for events that cannot occur change nothing -/

namespace Sys2Proof.Machine

section Line
variable {s : State}

theorem next_same {t : State} (same : t = s) : (.next t : Host.Outcome State Fault Refusal) = .next s := by rw [same]

/-! #### The events of the line -/

theorem fallingEdge_of_low (low : s.lrx = false) : fallingEdge s = s := by simp [fallingEdge, low]

theorem risingEdge_of_high (high : s.lrx = true) : risingEdge s = s := by simp [risingEdge, high]

theorem settled_of_not_rising (line : s.clc.line ≠ .rising) : settled s = s := if_neg line

theorem firstCharacter_of_not_deciding (no : s.lrv.rx ≠ .hunt ∨ s.lrv.mode ≠ .deciding) (samples : TenBits)
    (level : Bool) : firstCharacter samples level s = s :=
  if_neg (by tauto)

theorem delimiterFound_of_not_watching (no : s.lrv.rx ≠ .hunt ∨ s.lrv.mode ≠ .watching) (level : Bool) :
    delimiterFound level s = s :=
  if_neg (by tauto)

theorem not_isSome_of_none {α : Type} {o : Option α} (none : o = none) : ¬o.isSome = true := by simp [none]

theorem watchEnds_of_not_watching (no : s.lrv.rx ≠ .hunt ∨ s.lrv.mode ≠ .watching ∨ s.lrv.idle = none) :
    watchEnds s = s := by
  refine if_neg fun ⟨hunt, watching, idle⟩ => ?_
  obtain h | h | h := no
  · exact h hunt
  · exact h watching
  · exact not_isSome_of_none h idle

theorem truncated_of_no_frame (no : s.lrv.rx ≠ .header ∧ s.lrv.rx ≠ .body ∨ s.lrv.idle = none) :
    truncated s = s := by
  refine if_neg fun ⟨frame, idle⟩ => ?_
  obtain ⟨not_header, not_body⟩ | h := no
  · exact ((frameInFlight_iff s).mp frame).elim not_header not_body
  · exact not_isSome_of_none h idle

theorem skipEnds_of_no_skip (no : s.lrv.rx ≠ .skip ∨ s.lrv.skipIdle = none ∨ s.lrv.idle = none) : skipEnds s = s := by
  refine if_neg fun ⟨skip, counts, idle⟩ => ?_
  obtain h | h | h := no
  · exact h skip
  · exact not_isSome_of_none h counts
  · exact not_isSome_of_none h idle

theorem stuckEnds_of_not_stuck (no : s.lrv.rx ≠ .stuck ∨ s.lrv.high = none) : stuckEnds s = s := by
  refine if_neg fun ⟨stuck, high⟩ => ?_
  obtain h | h := no
  · exact h stuck
  · exact not_isSome_of_none h high

theorem stuck_of_not_low
    (no : s.clc.line ≠ .active ∨ s.lrv.rx = .stuck ∨ s.lrv.low = none ∨ s.lrv.charBusy = true) : stuck s = s := by
  refine if_neg fun ⟨line, not_stuck, low, free⟩ => ?_
  obtain h | h | h | h := no
  · exact h line
  · exact not_stuck h
  · exact not_isSome_of_none h low
  · cases h.symm.trans free

theorem waitEnds_of_not_waiting (no : s.rsp.state.code ≠ 1 ∨ s.lrv.rx ≠ .hunt ∨ s.lrv.idle = none) :
    waitEnds s = s := by
  unfold waitEnds
  split
  · next chars waiting =>
    refine if_neg fun ⟨hunt, idle⟩ => ?_
    obtain h | h | h := no
    · exact h (by rw [waiting]; rfl)
    · exact h hunt
    · exact not_isSome_of_none h idle
  all_goals rfl

theorem echoMissing_of_not_sending (no : s.ltxen = false ∨ s.lrv.charBusy = true) : echoMissing s = s := by
  unfold echoMissing
  split
  · next chars done sending =>
    refine if_pos (no.resolve_left ?_)
    simp [State.ltxen, sending]
  all_goals rfl

end Line

theorem lineEventsThatCannotOccur : Claim.LineEventsThatCannotOccur := by
  intro s
  refine ⟨fun low => ⟨next_same (fallingEdge_of_low low), next_same (fallingEdge_of_low low),
      next_same (fallingEdge_of_low low)⟩,
    fun high => next_same (risingEdge_of_high high), fun line => next_same (settled_of_not_rising line),
    fun no samples level => next_same (firstCharacter_of_not_deciding no samples level),
    fun no level => next_same (delimiterFound_of_not_watching no level), fun no => next_same (watchEnds_of_not_watching no),
    fun free b stop => next_same (characterEnd_of_free free), fun no => next_same (truncated_of_no_frame no),
    fun no => next_same (skipEnds_of_no_skip no), fun no => next_same (stuckEnds_of_not_stuck no),
    fun no => next_same (stuck_of_not_low no), fun no => next_same (waitEnds_of_not_waiting no),
    fun no => next_same (echoMissing_of_not_sending no)⟩

/-! #### Completions, expiries and the end of a reset -/

section Completions
variable {s : State} {b : Byte} {stop level : Bool}

theorem withInReset_same (running : s.inReset = false) : s.withInReset false = s := by
  rw [← running]
  rfl

theorem copyDone_of_no_snap (no_snap : s.lvs.snap = none) : copyDone s = s := if_neg (not_isSome_of_none no_snap)

theorem clearDone_of_not_softReset (no : s.cmu.inFlight.map (·.cmd) ≠ some .softReset) : clearDone s = s := by
  unfold clearDone
  split
  · rfl
  · next f busy => exact if_neg fun soft => no (by rw [busy, Option.map_some, soft])

theorem tickWhere_of_not_due {due : Bool} (no : s.inReset = true ∨ due = false) : tickWhere due s = s := by
  refine if_neg fun ⟨running, isDue⟩ => ?_
  obtain h | h := no
  · cases running.symm.trans h
  · cases isDue.symm.trans h

theorem not_expiresAt {n : Nat} (no : ∀ sl, s.lvs.slots[n]? = some sl →
    sl.maxAge = 0 ∨ (sl.state ≠ .fresh ∧ sl.state ≠ .seen) ∨ sl.age + 1 ≠ sl.maxAge) :
    s.lvs.expiresAt n = false := by
  unfold Lvs.expiresAt
  cases slot : s.lvs.slots[n]? with
  | none => rfl
  | some sl =>
    have stays := no sl slot
    rw [Option.map_some, Option.getD_some, Bool.eq_false_iff]
    intro expires
    obtain ⟨watched, due⟩ : sl.watched = true ∧ sl.age + 1 = sl.maxAge := by simpa [Slot.expires] using expires
    obtain ⟨limited, shown⟩ := Slot.watched_iff.mp watched
    tauto

theorem not_idleExpiresNext (no : s.clc.idleCount ≠ some 1 ∨ s.idleHolds = false ∨ s.lrv.charBusy = true) :
    s.idleExpiresNext = false := by
  unfold State.idleExpiresNext
  obtain h | h | h := no
  · simp [h]
  · simp [h]
  · simp [h]

theorem ite_finishClassification_of_no_job (no : s.entryWaits = false ∨ s.acf.job = none) :
    (if s.entryWaits then finishClassification s else s) = s := by
  obtain h | h := no
  · simp [h]
  · rw [finishClassification_of_none h, ite_self]

/-- The events that do not end the frame leave the command unit as it was (R52). -/
theorem endingEvent_cmu (e : FrameEnding) (waits : s.sourceWaits = true)
    (no : (s.lrv.rx ≠ .header ∧ s.lrv.rx ≠ .body) ∨ (s.lrv.rx = .body ∧ s.rsp.state = .idle ∧ ¬s.EndsBody e)) :
    (endingEvent e s).cmu = s.cmu := by
  cases e with
  | truncation =>
    change (truncated s).cmu = s.cmu
    rw [truncated_of_no_frame]
    refine no.imp id fun ⟨body, _, not_ends⟩ => ?_
    by_contra idle
    exact not_ends ⟨body, Option.isSome_iff_ne_none.mpr idle⟩
  | entryToStuck =>
    change (stuck s).cmu = s.cmu
    obtain no_frame | ⟨body, -, not_ends⟩ := no
    · unfold stuck
      have none_in_flight : ¬s.frameInFlight = true :=
        fun frame => ((frameInFlight_iff s).mp frame).elim no_frame.1 no_frame.2
      split
      · simp
      · rfl
    · rw [stuck_of_not_low]
      by_contra all
      push Not at all
      obtain ⟨line, -, low, free⟩ := all
      exact not_ends ⟨line, body, Option.isSome_iff_ne_none.mpr low, by simpa using free⟩
  | characterEnd b stop level =>
    change (characterEnd b stop level s).cmu = s.cmu
    cases busy : s.lrv.charBusy with
    | false =>
      rw [characterEnd_of_free busy]
      split <;> simp
    | true =>
      obtain no_frame | ⟨body, idle, not_ends⟩ := no
      · unfold characterEnd
        dsimp only
        rw [if_pos busy]
        split
        · simp
        all_goals
          rw [syncIdle_cmu, receiveChar_cmu_of_no_frame (by simpa using no_frame)]
          simp
      · rw [characterEnd_of_busy busy idle]
        cases stop with
        | false => exact absurd ⟨⟨body, busy, idle⟩, .inl rfl⟩ not_ends
        | true =>
          have opened : s.lrv.buffer.Open := fun last => not_ends ⟨⟨body, busy, idle⟩, .inr last⟩
          have ended : (finishClassification (endCharacter level s)).cmu = s.cmu := by
            rw [finishClassification_cmu_of_sourceWaits (by rw [← waits]; exact sourceWaits_congr (by simp))]
            simp
          rw [receiveChar_of_body (by simpa using body)]
          simp only [syncIdle_frame]
          rw [bodyChar_cmu_of_open (by simpa using opened), ended]

/-- A source command that would still wait is no end of the frame. -/
theorem deferred_of_still_waits {e : FrameEnding}
    (no : s.sourceWaits = false ∨ (s.lrv.rx ≠ .header ∧ s.lrv.rx ≠ .body) ∨
      (s.lrv.rx = .body ∧ s.rsp.state = .idle ∧ ¬s.EndsBody e)) :
    (if s.sourceWaits ∧ (endingEvent e s).sourceWaits = false then endingEvent e s else s) = s := by
  refine if_neg fun ⟨waits, done⟩ => ?_
  obtain h | h := no
  · cases waits.symm.trans h
  · rw [sourceWaits_congr (endingEvent_cmu e waits h), waits] at done
    cases done

end Completions

theorem completionsThatCannotOccur : Claim.CompletionsThatCannotOccur := by
  intro s
  refine ⟨fun running => next_same (withInReset_same running), fun job => next_same (finishClassification_of_none job),
    fun snap => next_same (copyDone_of_no_snap snap), fun no => next_same (clearDone_of_not_softReset no),
    fun n no => next_same (tickWhere_of_not_due (no.imp_right not_expiresAt)), fun no => next_same (tickWhere_of_not_due ?_),
    fun no => next_same (tickWhere_of_not_due (no.imp_right not_idleExpiresNext)),
    fun no => next_same (ite_finishClassification_of_no_job no), fun e no => next_same (deferred_of_still_waits no)⟩
  exact no.imp_right fun stands => by simpa [Nwc.expiresNext] using stands

/-! #### Accesses of the port -/

theorem accessesThatCannotOccur : Claim.AccessesThatCannotOccur := by
  intro s
  refine ⟨fun c addr at_addr no => ?write, fun c addr at_addr no => ?read, fun no => next_same ?dataRead,
    fun no late => next_same ?arrivals, fun no b => next_same ?command, fun low => next_same ?select,
    fun high => next_same (if_pos high)⟩
  case write =>
    obtain ⟨v, exec_eq⟩ := exec_of_writeAddr at_addr
    rw [exec_eq, hostWrite_of_not_WritesAt s _ no]
  case read =>
    rw [exec_of_readAddr at_addr]
    refine next_same ?_
    unfold hostRead
    split
    · next here => exact completeRead_of_not_read s fun l reads => no l ⟨here.1, reads, here.2⟩
    · rfl
  case dataRead =>
    simp only [portEvent]
    split
    · rfl
    · exact completeRead_of_not_read s no
  case arrivals =>
    simp only [portEvent, noteArrivals]
    rw [if_neg no, ite_self]
  case command =>
    simp only [portEvent, commandLoaded]
    split
    · rfl
    · split
      · next status phase => exact absurd phase (no status)
      all_goals rfl
  case select =>
    simp only [portEvent, selectPort]
    exact if_neg (by simp [low])

/-- Settles O4: every event is guarded by its condition. -/
theorem eventsThatCannotOccurChangeNothing : Obligations.EventsThatCannotOccurChangeNothing :=
  ⟨lineEventsThatCannotOccur, completionsThatCannotOccur, accessesThatCannotOccur⟩

end Sys2Proof.Machine
end

section
/-! ### Resets and ticks -/

namespace Sys2Proof.Machine

/-! #### Resets (R193, R199, R200) -/

theorem resetSetsEveryBlock : Claim.ResetSetsEveryBlock := by
  intro s
  refine ⟨resetBlocks s, rfl, rfl, rfl, rfl, rfl, rfl, rfl, rfl, rfl,
    ⟨rfl, rfl, rfl, rfl, rfl, rfl, rfl, rfl, rfl, rfl⟩, rfl, ⟨rfl, rfl, rfl, rfl, rfl⟩, rfl, rfl, rfl,
    ⟨rfl, rfl, rfl, rfl, rfl, rfl, rfl, rfl⟩, rfl, rfl, fun _ => rfl, rfl, ?irq, rfl, rfl,
    fun k _ => ⟨Counts.get_zero k, Counts.get_zero k⟩, rfl, miso_of_not_served _ (.inl rfl), ?low, ?high⟩
  case irq =>
    change (!(decide (HostState.awake = .awake) && ((0 : FlagSet) &&& 0 != 0))) = true
    decide
  case low =>
    change (0 : BitVec 1) ++ (0 : BitVec 2) ++ RxState.off.code ++ LineState.dormant.code = (0 : Byte)
    decide
  case high =>
    change bitAt 0 true ||| bitAt 1 (decide (HostState.awake = .asleep)) = 1
    decide

theorem resetHoldsThePart : Claim.ResetHoldsThePart := by
  intro s
  refine ⟨rfl, fun held => ⟨?tick, miso_of_not_served s (.inl held), fun c port => ?access, fun b => ?command,
    ?dataRead, fun late => ?arrivals, fun high => ?select, fun low => ?deselect⟩⟩
  case tick => exact next_same (if_pos held)
  case access =>
    obtain ⟨write, read, -⟩ := accessesThatCannotOccur s
    obtain at_some | at_some := port
    · obtain ⟨addr, at_addr⟩ := Option.ne_none_iff_exists'.mp at_some
      exact write c addr at_addr fun ⟨running, _⟩ => by simp [held] at running
    · obtain ⟨addr, at_addr⟩ := Option.ne_none_iff_exists'.mp at_some
      exact read c addr at_addr fun _ ⟨running, _⟩ => by simp [held] at running
  case command => exact next_same (if_pos held)
  case dataRead => exact next_same (if_pos held)
  case arrivals => exact next_same (if_pos held)
  case select =>
    have closed : selectPort s = s.withSpi { s.spi with csN := false, phase := .closed } := by
      rw [selectPort, if_pos high, if_pos held]
    exact congrArg Host.Outcome.next closed
  case deselect =>
    have closed : deselectPort s = s.withSpi { s.spi with csN := true, phase := .closed, late := ⟨0, []⟩ } :=
      if_neg (by simp [low])
    exact congrArg Host.Outcome.next closed

/-- Settles O5: the state after a reset block by block, and the guards of a reset in force. -/
theorem resetSetsAndHoldsThePart : Obligations.ResetSetsAndHoldsThePart := ⟨resetSetsEveryBlock, resetHoldsThePart⟩

/-! #### Ticks: the parts of one (R1, R3, R4, R11, R12, R118, R158) -/

section Tick
variable {s : State}

/-- The notification unit at a tick ahead of the hold-off (R118). -/
def State.staleNwc (s : State) : Nwc := if s.lvs.anyExpires then s.nwc.raise .stale else s.nwc

theorem tickSlots_eq : tickSlots s = { s with lvs := s.lvs.tick, nwc := s.staleNwc } := by
  unfold tickSlots State.staleNwc
  dsimp only
  split <;> rfl

/-- A tick moves the tick count, the slots, the notification unit, and the line's idle hold. -/
theorem doTick_blocks (s : State) : doTick s = { s with
    tkg := ⟨0, s.tkg.tickCount + 1, s.tkg.capture⟩
    clc := (doTick s).clc, lrv := (doTick s).lrv
    lvs := s.lvs.tick, nwc := s.staleNwc.tick } := by
  apply State.ext_blocks <;> simp [doTick, tickSlots_eq]
  rfl

theorem doTick_tkg : (doTick s).tkg = ⟨0, s.tkg.tickCount + 1, s.tkg.capture⟩ := by rw [doTick_blocks]

theorem tickIdle_of_not_running (no : s.idleHolds = false ∨ s.lrv.charBusy = true ∨ s.clc.idleCount = none) :
    tickIdle s = s := by
  unfold tickIdle
  split
  · rfl
  · next k counting =>
    refine if_pos ?_
    obtain h | h | h := no
    · exact .inr h
    · exact .inl h
    · cases h.symm.trans counting

theorem beforeIdleHold_idleHolds : (beforeIdleHold s).idleHolds = s.idleHolds := by
  obtain ⟨clc, lrv, rsp, -⟩ := beforeIdleHold_frame s
  simp only [State.idleHolds, clc, lrv, rsp]

/-- Where the idle hold does not run down, the line and its receiver stand (R11). -/
theorem doTick_of_not_running (no : s.idleHolds = false ∨ s.lrv.charBusy = true ∨ s.clc.idleCount = none) :
    (doTick s).clc = s.clc ∧ (doTick s).lrv = s.lrv := by
  obtain ⟨clc, lrv, -, -⟩ := beforeIdleHold_frame s
  rw [doTick_eq, tickIdle_of_not_running (by rwa [beforeIdleHold_idleHolds, clc, lrv])]
  exact ⟨clc, lrv⟩

/-- Where it runs, the countdown counts, and at its end the receiver stops and the line is left (R12). -/
theorem tickIdle_of_running {k : Nat} (holds : s.idleHolds = true) (free : s.lrv.charBusy = false)
    (counting : s.clc.idleCount = some k) :
    tickIdle s = if k ≤ 1 then expireIdle s else s.withClc { s.clc with idleCount := some (k - 1) } := by
  unfold tickIdle
  simp only [counting, free, holds, Bool.false_eq_true, Bool.true_eq_false, or_self, if_false]

theorem doTick_of_running {k : Nat} (holds : s.idleHolds = true) (free : s.lrv.charBusy = false)
    (counting : s.clc.idleCount = some k) (more : 1 < k) :
    (doTick s).clc = { s.clc with idleCount := some (k - 1) } ∧ (doTick s).lrv = s.lrv := by
  obtain ⟨clc, lrv, -, -⟩ := beforeIdleHold_frame s
  rw [doTick_eq, tickIdle_of_running (by rwa [beforeIdleHold_idleHolds]) (by rwa [lrv]) (by rwa [clc]),
    if_neg (Nat.not_le.mpr more)]
  exact ⟨by rw [State.withClc_clc, clc], lrv⟩

theorem doTick_of_last (holds : s.idleHolds = true) (free : s.lrv.charBusy = false)
    (counting : s.clc.idleCount = some 1) : doTick s = enterListen ((beforeIdleHold s).withLrv .off) := by
  obtain ⟨clc, lrv, -, -⟩ := beforeIdleHold_frame s
  rw [doTick_eq, tickIdle_of_running (k := 1) (by rwa [beforeIdleHold_idleHolds]) (by rwa [lrv]) (by rwa [clc])]
  rfl

/-! #### The slots at a tick (R118) -/

theorem Slot.expires_iff {sl : Slot} :
    sl.expires = true ↔ sl.maxAge ≠ 0 ∧ (sl.state = .fresh ∨ sl.state = .seen) ∧ sl.age + 1 = sl.maxAge := by
  simp [Slot.expires, Slot.watched, and_assoc]

theorem anyExpires_iff {l : Lvs} :
    l.anyExpires = true ↔ ∃ sl ∈ l.slots, sl.maxAge ≠ 0 ∧ (sl.state = .fresh ∨ sl.state = .seen) ∧
      sl.age + 1 = sl.maxAge := by
  simp only [Lvs.anyExpires, List.any_eq_true, Slot.expires_iff]

theorem Slot.tick_eq (sl : Slot) :
    sl.tick = if sl.maxAge ≠ 0 ∧ (sl.state = .fresh ∨ sl.state = .seen) then
      { sl with age := sl.age + 1, state := if sl.age + 1 = sl.maxAge then .stale else sl.state } else sl := by
  unfold Slot.tick
  simp only [Slot.watched_iff]

theorem Nwc.tick_flags_of_ne {n : Nwc} {f : Flag} (ne : f ≠ .rx) : f.isIn n.tick.flags = f.isIn n.flags := by
  unfold Nwc.tick
  split
  · rfl
  · split
    · simp [ne]
    · rfl

theorem staleNwc_flags : Flag.stale.isIn s.staleNwc.flags = true ↔
    Flag.stale.isIn s.nwc.flags = true ∨ s.lvs.anyExpires = true := by
  unfold State.staleNwc
  split <;> simp [*]

theorem doTick_nwc : (doTick s).nwc = s.staleNwc.tick := by rw [doTick_blocks]

theorem doTick_stale : Flag.stale.isIn (doTick s).nwc.flags = true ↔
    Flag.stale.isIn s.nwc.flags = true ∨ ∃ sl ∈ s.lvs.slots, sl.maxAge ≠ 0 ∧
      (sl.state = .fresh ∨ sl.state = .seen) ∧ sl.age + 1 = sl.maxAge := by
  rw [doTick_nwc, Nwc.tick_flags_of_ne (by decide), staleNwc_flags, anyExpires_iff]

theorem doTick_slot {n : Nat} {sl : Slot} (slot : s.lvs.slots[n]? = some sl) :
    (doTick s).lvs.slots[n]? = some sl.tick := by
  rw [doTick_lvs, Lvs.tick, List.getElem?_map, slot, Option.map_some]

end Tick

theorem tickCounts : Claim.TickCounts := by
  intro s running
  refine ⟨_, exec_tick_of_running running, doTick_tkg, fun some_expires => ?expires,
    fun none_expires => ?stands, doTick_of_not_running, ?frame⟩
  case expires =>
    rw [doTick_nwc, State.staleNwc, if_pos (anyExpires_iff.mpr some_expires)]
    rfl
  case stands =>
    have no : ¬s.lvs.anyExpires = true := by
      rw [anyExpires_iff]
      rintro ⟨sl, mem, expires⟩
      exact none_expires sl mem expires
    rw [doTick_nwc, State.staleNwc, if_neg no]
    rfl
  case frame =>
    conv_lhs => rw [doTick_blocks]
    apply State.ext_blocks <;> simp [doTick_lvs, doTick_nwc, doTick_tkg]

theorem tickAgesWatchedSlots : Claim.TickAgesWatchedSlots := by
  intro s running
  refine ⟨_, exec_tick_of_running running, by rw [doTick_lvs]; rfl, ?_, fun n sl slot => ?_, doTick_stale⟩
  · rw [doTick_lvs, Lvs.tick, List.length_map]
  · rw [doTick_slot slot, Slot.tick_eq]

theorem staleWatchExpires : Claim.StaleWatchExpires := by
  intro s n sl running slot limited shown due
  have expires : sl.expires = true := Slot.expires_iff.mpr ⟨limited, shown, due⟩
  have at_slot : s.lvs.expiresAt n = true := by simp [Lvs.expiresAt, slot, expires]
  refine ⟨doTick s, ?_, exec_tick_of_running running, ?_, ?_⟩
  · exact congrArg Host.Outcome.next (if_pos ⟨running, at_slot⟩)
  · rw [doTick_slot slot, Slot.tick_eq, if_pos ⟨limited, shown⟩, if_pos due, due]
  · exact doTick_stale.mpr (.inr ⟨sl, List.mem_of_getElem? slot, limited, shown, due⟩)

/-- Settles O6: a tick block by block, the slots one by one, and a slot's expiry as the tick it is. -/
theorem tickCountsAndAgesSlots : Obligations.TickCountsAndAgesSlots :=
  ⟨tickCounts, tickAgesWatchedSlots, staleWatchExpires⟩

/-! #### The two countdowns at a tick -/

section Countdowns
variable {s : State}

theorem staleNwc_fields : s.staleNwc.holdOff = s.nwc.holdOff ∧ s.staleNwc.u = s.nwc.u ∧
    Flag.rx.isIn s.staleNwc.flags = Flag.rx.isIn s.nwc.flags := by
  unfold State.staleNwc
  split
  · exact ⟨rfl, rfl, by simp⟩
  · exact ⟨rfl, rfl, rfl⟩

theorem Nwc.tick_of_none {n : Nwc} (stopped : n.holdOff = none) : n.tick = n := by
  simp only [Nwc.tick, stopped]

theorem Nwc.tick_of_some {n : Nwc} {k : Nat} (counting : n.holdOff = some k) :
    n.tick = if k ≤ 1 then { n with holdOff := none }.raise .rx else { n with holdOff := some (k - 1) } := by
  simp only [Nwc.tick, counting]

end Countdowns

theorem holdOffCountsDown : Claim.HoldOffCountsDown := by
  intro s running
  obtain ⟨holdOff, u, rx⟩ := staleNwc_fields (s := s)
  refine ⟨fun k counting more => ?counts, fun stopped => ?stopped, fun last => ?expires⟩
  case counts =>
    refine ⟨_, exec_tick_of_running running, ?_⟩
    rw [doTick_nwc, Nwc.tick_of_some (holdOff.trans counting), if_neg (Nat.not_le.mpr more)]
    exact ⟨rfl, u, rx⟩
  case stopped =>
    refine ⟨_, exec_tick_of_running running, ?_⟩
    rw [doTick_nwc, Nwc.tick_of_none (holdOff.trans stopped)]
    exact ⟨holdOff.trans stopped, u, rx⟩
  case expires =>
    refine ⟨doTick s, ?_, exec_tick_of_running running, ?_⟩
    · exact congrArg Host.Outcome.next (if_pos ⟨running, by simp [Nwc.expiresNext, last]⟩)
    · rw [doTick_nwc, Nwc.tick_of_some (holdOff.trans last), if_pos le_rfl]
      exact ⟨rfl, u, by simp⟩

theorem idleHoldExpires : Claim.IdleHoldExpires := by
  intro s running holds k counting
  refine ⟨fun busy => ⟨_, exec_tick_of_running running, doTick_of_not_running (.inr (.inl busy))⟩,
    fun free more => ⟨_, exec_tick_of_running running, doTick_of_running holds free counting more⟩,
    fun free last => ?expires⟩
  case expires =>
    subst last
    have due : s.idleExpiresNext = true := by simp [State.idleExpiresNext, counting, holds, free]
    have lrx : ((beforeIdleHold s).withLrv .off).lrx = s.lrx := by simp [beforeIdleHold]
    have cfg : ((beforeIdleHold s).withLrv .off).cfg = s.cfg := by simp [beforeIdleHold]
    refine ⟨doTick s, congrArg Host.Outcome.next (if_pos ⟨running, due⟩), exec_tick_of_running running, ?_⟩
    rw [doTick_of_last holds free counting]
    cases level : s.lrx with
    | true =>
      rw [enterListen_of_high (lrx.trans level)]
      exact ⟨rfl, rfl, fun _ => ⟨rfl, rfl, rfl⟩, nofun⟩
    | false =>
      rw [enterListen_of_low (lrx.trans level)]
      refine ⟨rfl, rfl, nofun, fun _ => ⟨rfl, ?_⟩⟩
      rw [enterRising, State.withClc_clc, cfg]
      rfl

/-- Settles O7: each countdown where it stands, counts and ends. -/
theorem countdownsRunAtTicks : Obligations.CountdownsRunAtTicks := ⟨holdOffCountsDown, idleHoldExpires⟩

end Sys2Proof.Machine
end

section
/-! ### From LISTEN to the first frame, and the edges (R7 to R9, R17, R18, R22, R33, R34) -/

namespace Sys2Proof.Machine

/-! #### From LISTEN to ACTIVE -/

section Wake
variable {s : State}

theorem fallingEdgeInListen : Claim.FallingEdgeInListen := by
  intro s high
  refine ⟨fun line => ?listen, fun line => ?unheard⟩
  case listen =>
    have wakes : fallingEdge s = enterRising (s.withLrx false) := by simp [fallingEdge, high, line]
    exact congrArg Host.Outcome.next wakes
  case unheard =>
    have falls : fallingEdge s = s.withLrx false := by
      obtain h | h := line <;> simp [fallingEdge, high, h]
    exact congrArg Host.Outcome.next falls

theorem settleCompletionOpensTheDecision : Claim.SettleCompletionOpensTheDecision := by
  intro s line idle
  have settles : settled s = syncIdle ((s.withClc ⟨.active, none, none⟩).withLrv (.started s.lrx)) := if_pos line
  have loads : ((s.withClc ⟨.active, none, none⟩).withLrv (.started s.lrx)).syncedIdle =
      if s.cfg.idleHold = 0 then none else some s.cfg.idleHold.toNat :=
    syncedIdle_of_loads rfl rfl idle rfl
  rw [syncIdle_eq, loads] at settles
  exact congrArg Host.Outcome.next settles

/-- Settles O8: the edge that wakes the line, and the settle completion. -/
theorem wakeFromListen : Obligations.WakeFromListen := ⟨fallingEdgeInListen, settleCompletionOpensTheDecision⟩

end Wake

/-! #### The first-character decision and the watch (R9, R15, R22) -/

section FirstCharacter
variable {s : State} {samples : TenBits} {level : Bool}

theorem tenBitsFind_iff {character : Byte} :
    tenBitsFind character samples = true ↔ samples.place = .clear ∧ samples.bits = charSamples character :=
  decide_eq_true_iff

theorem charSamples_preambleChar : charSamples preambleChar = 0b1010101010 := by decide

theorem charSamples_delimiterChar : charSamples delimiterChar = 0b1110001010 := by decide

theorem firstCharacter_of_preamble (deciding : s.lrv.rx = .hunt ∧ s.lrv.mode = .deciding)
    (place : samples.place = .clear) (bits : samples.bits = 0b1010101010) :
    firstCharacter samples level s =
      syncIdle ((noteLevel level s).withLrv { (noteLevel level s).lrv with mode := .watching }) := by
  have found : tenBitsFind preambleChar samples = true :=
    tenBitsFind_iff.mpr ⟨place, bits.trans charSamples_preambleChar.symm⟩
  unfold firstCharacter
  dsimp only
  rw [if_pos deciding, if_pos found]

theorem firstCharacter_of_delimiter (deciding : s.lrv.rx = .hunt ∧ s.lrv.mode = .deciding)
    (place : samples.place = .clear) (bits : samples.bits = 0b1110001010) :
    firstCharacter samples level s = syncIdle (enterHeader (endCharacter level s)) := by
  have found : tenBitsFind delimiterChar samples = true :=
    tenBitsFind_iff.mpr ⟨place, bits.trans charSamples_delimiterChar.symm⟩
  have no_preamble : ¬tenBitsFind preambleChar samples = true := by
    rw [tenBitsFind_iff, bits, charSamples_preambleChar]
    exact fun same => absurd same.2 (by decide)
  unfold firstCharacter
  dsimp only
  rw [if_pos deciding, if_neg no_preamble, if_pos found]

theorem firstCharacter_of_neither (deciding : s.lrv.rx = .hunt ∧ s.lrv.mode = .deciding)
    (neither : samples.place ≠ .clear ∨ (samples.bits ≠ 0b1010101010 ∧ samples.bits ≠ 0b1110001010)) :
    firstCharacter samples level s = syncIdle (count .missedRising (enterSkip (noteLevel level s))) := by
  have no_preamble : ¬tenBitsFind preambleChar samples = true := by
    rw [tenBitsFind_iff, charSamples_preambleChar]
    tauto
  have no_delimiter : ¬tenBitsFind delimiterChar samples = true := by
    rw [tenBitsFind_iff, charSamples_delimiterChar]
    tauto
  unfold firstCharacter
  dsimp only
  rw [if_pos deciding, if_neg no_preamble, if_neg no_delimiter]

end FirstCharacter

theorem firstCharacterDecides : Claim.FirstCharacterDecides := by
  intro s samples level hunt deciding
  refine ⟨firstCharacter samples level s, rfl, ?_⟩
  by_cases preamble : samples.place = .clear ∧ samples.bits = 0b1010101010
  · obtain ⟨place, bits⟩ := preamble
    rw [firstCharacter_of_preamble ⟨hunt, deciding⟩ place bits]
    refine ⟨by simp, fun _ _ => by simp [hunt], fun _ other => ?_, fun other => ?_, ?_⟩
    · exact absurd (bits.symm.trans other) (by decide)
    · tauto
    · apply State.ext_blocks <;> simp
  · by_cases delimiter : samples.place = .clear ∧ samples.bits = 0b1110001010
    · obtain ⟨place, bits⟩ := delimiter
      rw [firstCharacter_of_delimiter ⟨hunt, deciding⟩ place bits]
      refine ⟨by simp, fun _ other => absurd (bits.symm.trans other) (by decide), fun _ _ => ?_, fun other => ?_, ?_⟩
      · simp [enterHeader, FrameBuffer.empty]
      · tauto
      · apply State.ext_blocks <;> simp
    · have neither : samples.place ≠ .clear ∨ (samples.bits ≠ 0b1010101010 ∧ samples.bits ≠ 0b1110001010) := by
        tauto
      rw [firstCharacter_of_neither ⟨hunt, deciding⟩ neither]
      refine ⟨by simp, fun place bits => absurd ⟨place, bits⟩ preamble,
        fun place bits => absurd ⟨place, bits⟩ delimiter, fun _ => ?_, ?_⟩
      · refine ⟨by simp [enterSkip], by simp [enterSkip], ?_⟩
        rw [syncIdle_ctb, get_count]
        simp
      · apply State.ext_blocks <;> simp

theorem watchFindsDelimiterOrEnds : Claim.WatchFindsDelimiterOrEnds := by
  intro s hunt watching
  refine ⟨fun level => ?delimiter, fun idle => ?ends⟩
  case delimiter =>
    have found : delimiterFound level s = syncIdle (enterHeader (endCharacter level s)) := if_pos ⟨hunt, watching⟩
    refine ⟨_, congrArg Host.Outcome.next found, by simp, by simp [enterHeader], by simp [enterHeader],
      by simp [enterHeader], by simp [enterHeader]; rfl, ?_⟩
    apply State.ext_blocks <;> simp
  case ends => exact congrArg Host.Outcome.next (if_pos ⟨hunt, watching, idle⟩)

/-- Settles O9: the decision by what the ten bit times show, and the watch by how it ends. -/
theorem firstCharacterFindsTheFrame : Obligations.FirstCharacterFindsTheFrame :=
  ⟨firstCharacterDecides, watchFindsDelimiterOrEnds⟩

end Sys2Proof.Machine
end

section
/-! ### Character starts and the other edges (R17, R18, R32 to R34, R138) -/

namespace Sys2Proof.Machine

section Start
variable {s : State}

theorem fallingEdge_of_start (line : s.clc.line = .active) (high : s.lrx = true) (not_stuck : s.lrv.rx ≠ .stuck)
    (begins : s.lrv.charBusy = false ∨ s.lrv.mode ≠ .framed) :
    fallingEdge s = characterStart (s.withLrx false) := by
  have active : (s.withLrx false).clc.line = .active := line
  have not_stuck' : (s.withLrx false).lrv.rx ≠ .stuck := not_stuck
  have not_inside : ¬((s.withLrx false).lrv.charBusy = true ∧ (s.withLrx false).lrv.mode = .framed) := by
    rintro ⟨busy, framed⟩
    obtain free | unframed := begins
    · cases busy.symm.trans free
    · exact unframed framed
  unfold fallingEdge fallingEdgeActive
  dsimp only
  rw [if_pos high, active]
  dsimp only
  rw [if_neg not_stuck', if_neg not_inside]

theorem characterStart_lrv : (characterStart s).lrv = s.lrv.starting := by
  rw [characterStart_eq]
  split <;> simp

theorem characterStart_rsp : (characterStart s).rsp = (startedCharacter s).rsp := by
  rw [characterStart_eq]
  split <;> simp

/-- The idle hold looks at the line, the receiver and the responder, which its own load leaves (R11). -/
theorem characterStart_idleHolds : (characterStart s).idleHolds = (startedCharacter s).idleHolds := by
  simp only [State.idleHolds, characterStart_line, characterStart_lrv, characterStart_rsp, startedCharacter_lrv,
    startedCharacter_clc_cfg.1]

/-- A character start loads the idle hold afresh where it runs (R11). -/
theorem characterStart_clc : (characterStart s).clc = { s.clc with
    idleCount := if (characterStart s).idleHolds then s.loadedIdle else none } := by
  have clc := (startedCharacter_clc_cfg (s := s)).1
  have loaded : (startedCharacter s).loadedIdle = s.loadedIdle := by
    rw [loadedIdle_eq, loadedIdle_eq, startedCharacter_clc_cfg.2]
  rw [characterStart_idleHolds, characterStart_eq]
  by_cases holds : (startedCharacter s).idleHolds = true
  · rw [if_pos holds, if_pos holds, loadIdle, State.withClc_clc, clc, loaded]
  · rw [if_neg holds, if_neg holds, syncIdle_clc, clc, State.syncedIdle, if_neg holds]

theorem startedCharacter_of_waiting {chars : List Byte} (waiting : s.rsp.state = .waiting chars) :
    startedCharacter s = count .responseAborts ((s.withLrv s.lrv.starting).withRsp { s.rsp with state := .idle }) := by
  simp only [startedCharacter, waiting]

theorem startedCharacter_of_not_waiting (no : s.rsp.state.code ≠ 1) :
    startedCharacter s = s.withLrv s.lrv.starting := by
  unfold startedCharacter
  split
  · next chars waiting => exact absurd (by rw [waiting]; rfl) no
  all_goals rfl

end Start

/-- Settles O10: the start's effect on the receiver, on a response that waits, and on the idle hold. -/
theorem characterStarts : Obligations.CharacterStarts := by
  intro s line high not_stuck begins
  have runs := congrArg (Host.Outcome.next (σ := State) (φ := Fault) (ρ := Refusal))
    (fallingEdge_of_start line high not_stuck begins)
  refine ⟨_, runs, by simp, characterStart_lrv, fun chars waiting => ⟨?_, ?_⟩, fun no => ⟨?_, ?_, ?_⟩,
    fun holds => ?_, fun stopped => ?_, ?_⟩
  · rw [characterStart_rsp, startedCharacter_of_waiting (s := s.withLrx false) waiting]
    simp
  · rw [characterStart_ctb, startedCharacter_of_waiting (s := s.withLrx false) waiting, get_count]
    simp
  · rw [characterStart_rsp, startedCharacter_of_not_waiting (s := s.withLrx false) no]
    rfl
  · rw [characterStart_ctb, startedCharacter_of_not_waiting (s := s.withLrx false) no]
    rfl
  · rw [characterStart_nwc, startedCharacter_of_not_waiting (s := s.withLrx false) no]
    rfl
  · rw [characterStart_clc, holds]
    rfl
  · rw [characterStart_clc, stopped]
    rfl
  · apply State.ext_blocks <;> simp [characterStart_clc]

/-! #### The edges that start no character -/

theorem edgesInActiveMoveTheTimes : Claim.EdgesInActiveMoveTheTimes := by
  intro s line
  have active : (s.withLrx false).clc.line = .active := line
  refine ⟨fun high stuck => ?stuck, fun high not_stuck busy framed => ?inside, fun low => ?rises⟩
  case stuck =>
    have falls : fallingEdge s = (s.withLrx false).withLrv { s.lrv with high := none, idle := none } := by
      simp [fallingEdge, fallingEdgeActive, high, line, stuck]
    exact congrArg Host.Outcome.next falls
  case inside =>
    have falls : fallingEdge s = (s.withLrx false).withLrv { s.lrv with low := some 0 } := by
      simp [fallingEdge, fallingEdgeActive, high, line, not_stuck, busy, framed]
    exact congrArg Host.Outcome.next falls
  case rises =>
    have rises : risingEdge s = (s.withLrx true).withLrv { s.lrv with
        low := none
        idle := if s.lrv.charBusy then none else some 0
        high := if s.lrv.rx = .stuck then some 0 else none } := by
      simp [risingEdge, low, line]
      rfl
    exact congrArg Host.Outcome.next rises

theorem otherRisingEdges : Claim.OtherRisingEdges := by
  intro s
  refine ⟨fun line low => ?_, fun free b stop => ?_⟩
  · have rises : risingEdge s = s.withLrx true := by simp [risingEdge, low, line]
    exact congrArg Host.Outcome.next rises
  · exact congrArg Host.Outcome.next ((characterEnd_of_free free).trans (if_pos rfl))

/-- Settles O11: the edges in ACTIVE, and outside it. -/
theorem edgesMoveTheLineTimes : Obligations.EdgesMoveTheLineTimes := ⟨edgesInActiveMoveTheTimes, otherRisingEdges⟩

end Sys2Proof.Machine
end

section
/-! ### The CRC and the header (R19, R20, R196) -/

namespace Sys2Proof.Machine

/-! #### The CRC (R19) -/

section Crc
variable {c : BitVec 16}

/-- A shift of a CRC below 2^15 doubles it: the polynomial does not come in. -/
theorem toNat_crcShift (low : c.toNat < 2 ^ 15) : (crcShift c).toNat = 2 * c.toNat := by
  have msb : c.msb = false := by
    rw [BitVec.msb_eq_decide, decide_eq_false_iff_not]
    exact Nat.not_le.mpr low
  rw [crcShift, msb, if_neg Bool.false_ne_true, BitVec.toNat_shiftLeft]
  omega

/-- Shifts that carry nothing out of the CRC double it each. -/
theorem toNat_iterate_crcShift (k : Nat) (low : 2 ^ k * c.toNat < 2 ^ 16) :
    (crcShift^[k] c).toNat = 2 ^ k * c.toNat := by
  induction k with
  | zero => simp
  | succ k ih =>
    have half : 2 ^ k * c.toNat < 2 ^ 15 := by
      rw [pow_succ, Nat.mul_right_comm] at low
      omega
    specialize ih (by omega)
    rw [Function.iterate_succ_apply', toNat_crcShift (by rwa [ih]), ih, pow_succ]
    ring

theorem toNat_shifted_byte (b : Byte) : (b.setWidth 16 <<< 8).toNat = 256 * b.toNat := by
  have lt := b.isLt
  rw [BitVec.toNat_shiftLeft, BitVec.toNat_setWidth, Nat.shiftLeft_eq]
  omega

/-- A CRC is its two bytes. -/
theorem eq_xor_low_byte (c : BitVec 16) :
    c ^^^ ((c.extractLsb' 8 8).setWidth 16 <<< 8) = (c.extractLsb' 0 8).setWidth 16 := by
  apply BitVec.eq_of_getLsbD_eq
  intro i lt
  by_cases low : i < 8
  · simp [low, lt]
  · have in_high : i - 8 < 8 := by omega
    have back : 8 + (i - 8) = i := by omega
    simp [low, lt, in_high, back]

/-- The high byte of the CRC, fed to it, leaves the low byte in the high place. -/
theorem crcByte_high (c : BitVec 16) :
    crcByte c (c.extractLsb' 8 8) = (c.extractLsb' 0 8).setWidth 16 <<< 8 := by
  have low : ((c.extractLsb' 0 8).setWidth 16).toNat = (c.extractLsb' 0 8).toNat := by
    have lt := (c.extractLsb' 0 8).isLt
    rw [BitVec.toNat_setWidth]
    omega
  apply BitVec.eq_of_toNat_eq
  rw [toNat_shifted_byte, crcByte, eq_xor_low_byte]
  have lt := (c.extractLsb' 0 8).isLt
  have shifted := toNat_iterate_crcShift (c := (c.extractLsb' 0 8).setWidth 16) 8 (by omega)
  rw [low] at shifted
  exact shifted

/-- A byte that stands in the high place of the CRC, fed to it, leaves 0. -/
theorem crcByte_shifted (b : Byte) : crcByte (b.setWidth 16 <<< 8) b = 0 := by
  unfold crcByte
  dsimp only
  rw [BitVec.xor_self]
  decide

end Crc

/-- Settles O12: the first check byte moves the low byte up, the second cancels it; and the reference value. -/
theorem crcOfBytesAndCheckIsZero : Obligations.CrcOfBytesAndCheckIsZero := by
  refine ⟨fun bytes => ?_, rfl, by decide +kernel⟩
  rw [crcOf, List.foldl_append, List.foldl_cons, List.foldl_cons, List.foldl_nil]
  change crcByte (crcByte (crcOf bytes) _) _ = 0
  rw [crcByte_high, crcByte_shifted]

/-! #### The header (R20, R196) -/

section Header
variable {b : Byte}

theorem toNat_low_bits (b : Byte) (n : Nat) : (b.extractLsb' 0 n).toNat = b.toNat % 2 ^ n := by
  rw [BitVec.extractLsb'_toNat, Nat.shiftRight_zero]

theorem toNat_high_nibble (b : Byte) : (b.extractLsb' 4 4).toNat = b.toNat / 16 := by
  have lt := b.isLt
  rw [BitVec.extractLsb'_toNat, Nat.shiftRight_eq_div_pow]
  omega

theorem toNat_kind_bits (b : Byte) : (b.extractLsb' 6 2).toNat = b.toNat / 64 := by
  have lt := b.isLt
  rw [BitVec.extractLsb'_toNat, Nat.shiftRight_eq_div_pow]
  omega

theorem toNat_append_byte {n : Nat} (x : BitVec n) (y : Byte) : (x ++ y).toNat = 256 * x.toNat + y.toNat := by
  rw [BitVec.toNat_append, Nat.shiftLeft_eq, Nat.mul_comm]
  exact (Nat.two_pow_add_eq_or_of_lt y.isLt _).symm

/-- The two kind bits by their value (Table 81). -/
theorem kind_bits_eq (code : BitVec 2) (value : b.toNat / 64 = code.toNat) : b.extractLsb' 6 2 = code := by
  apply BitVec.eq_of_toNat_eq
  rw [toNat_kind_bits, value]

theorem isNode_iff {a : Byte} : isNode a = true ↔ a ≠ 0 ∧ ¬248 ≤ a.toNat := by
  have zero : a = 0 ↔ a.toNat = 0 := by rw [← BitVec.toNat_inj]; rfl
  rw [isNode, decide_eq_true_iff, ne_eq, zero]
  change 1 ≤ a.toNat ∧ a.toNat ≤ 247 ↔ _
  omega

/-- The conditions of Table 20, kind by kind (R20). -/
theorem Header.valid_eq_false_iff {h : Header} :
    h.valid = false ↔
      h.kind = .fourth ∨ h.source = 0 ∨ 248 ≤ h.source.toNat ∨ 248 ≤ h.dest.toNat ∨
        (h.kind = .publish ∧ h.dest ≠ 0) ∨ ((h.kind = .send ∨ h.kind = .response) ∧ h.dest = 0) ∨
        49 ≤ h.length := by
  have dest : ¬h.dest.toNat ≤ Config.maxNode ↔ 248 ≤ h.dest.toNat := by
    change ¬h.dest.toNat ≤ 247 ↔ _
    omega
  have length : ¬h.length ≤ Config.maxPayload ↔ 49 ≤ h.length := by
    change ¬h.length ≤ 48 ↔ _
    omega
  have source : ¬isNode h.source = true ↔ h.source = 0 ∨ 248 ≤ h.source.toNat := by
    rw [isNode_iff]
    tauto
  rw [← Bool.not_eq_true, Header.valid]
  simp only [Bool.and_eq_true, decide_eq_true_eq, not_and_or, source, dest, length]
  cases h.kind with
  | publish => simp; tauto
  | send => simp; tauto
  | response => simp; tauto
  | fourth => simp

end Header

/-- Settles O13: the fields bit by bit, and the validity kind by kind. -/
theorem headerLayoutAndValidity : Obligations.HeaderLayoutAndValidity := by
  intro b1 b2 b3 b4 b5 b6
  refine ⟨rfl, rfl, rfl, toNat_low_bits b3 6, toNat_high_nibble b4, ?topic, fun k => ?publish, fun k => ?send,
    fun k => ?response, fun k => ?fourth, Header.valid_eq_false_iff⟩
  case topic =>
    change (b4.extractLsb' 0 4 ++ b5).toNat = _
    rw [toNat_append_byte, toNat_low_bits]
    rfl
  case publish => exact congrArg Kind.ofCode (kind_bits_eq 0 k)
  case send => exact congrArg Kind.ofCode (kind_bits_eq 1 k)
  case response => exact congrArg Kind.ofCode (kind_bits_eq 2 k)
  case fourth => exact congrArg Kind.ofCode (kind_bits_eq 3 k)

end Sys2Proof.Machine
end

section
/-! ### Characters in HUNT and HEADER, and the bytes of a frame (R22 to R25) -/

namespace Sys2Proof.Machine

section Ends
variable {s : State} {b : Byte} {stop level : Bool} {rx : RxState}

theorem State.Framing.endCharacter (framing : s.Framing rx) : (endCharacter level s).lrv.rx = rx := by
  simpa using framing.1

/-- A framed character reaches the receiver, and the idle hold follows (R11, R17, R36). -/
theorem characterEnd_of_framing (framing : s.Framing rx) :
    characterEnd b stop level s = syncIdle (receiveChar b stop (endCharacter level s)) :=
  characterEnd_of_busy framing.2.1 framing.2.2

theorem afterCharacter_idle (l : Lrv) : (l.afterCharacter level).idle.isSome = level := by
  cases level <;> rfl

theorem afterCharacter_low (l : Lrv) : (l.afterCharacter level).low.isSome = !level := by
  cases level <;> rfl

/-- The idle hold stands at none wherever the receiver is outside HUNT. -/
theorem syncIdle_of_not_hunt (not_hunt : s.lrv.rx ≠ .hunt) :
    syncIdle s = s.withClc { s.clc with idleCount := none } := by
  rw [syncIdle_eq, syncedIdle_of_not_hunt not_hunt]

/-! #### HUNT (R22) -/

theorem huntChar_of_preamble (found : stop = true ∧ b = 0x55) : huntChar b stop s = s := if_pos found

theorem huntChar_of_delimiter (found : stop = true ∧ b = 0xC5) : huntChar b stop s = enterHeader s := by
  obtain ⟨rfl, rfl⟩ := found
  rfl

theorem huntChar_of_other (other : stop = false ∨ (b ≠ 0x55 ∧ b ≠ 0xC5)) : huntChar b stop s = enterSkip s := by
  obtain rfl | ⟨not_preamble, not_delimiter⟩ := other
  · rfl
  · exact (if_neg fun found => not_preamble found.2).trans (if_neg fun found => not_delimiter found.2)

end Ends

/-- Settles O14: the three outcomes of a character framed in HUNT. -/
theorem characterInHunt : Obligations.CharacterInHunt := by
  intro s b stop level framing framed
  have ends : characterEnd b stop level s = syncIdle (huntChar b stop (endCharacter level s)) := by
    rw [characterEnd_of_framing framing, receiveChar_of_hunt framing.endCharacter (by simpa using framed)]
  refine ⟨_, congrArg Host.Outcome.next ends, ?_⟩
  by_cases preamble : stop = true ∧ b = 0x55
  · have not_delimiter : b ≠ 0xC5 := by
      rw [preamble.2]
      decide
    rw [huntChar_of_preamble preamble]
    refine ⟨by simp, by simp, by simp [afterCharacter_idle], by simp [afterCharacter_low],
      fun _ => by simp [framing.1], fun other => absurd other.2 not_delimiter, fun other => ?_, ?_⟩
    · simp [preamble] at other
    · apply State.ext_blocks <;> simp
  · by_cases delimiter : stop = true ∧ b = 0xC5
    · rw [huntChar_of_delimiter delimiter]
      refine ⟨by simp, by simp [enterHeader], by simp [enterHeader, afterCharacter_idle],
        by simp [enterHeader, afterCharacter_low], fun other => absurd other preamble,
        fun _ => by simp [enterHeader, FrameBuffer.empty], fun other => ?_, ?_⟩
      · simp [delimiter] at other
      · apply State.ext_blocks <;> simp
    · have other : stop = false ∨ (b ≠ 0x55 ∧ b ≠ 0xC5) := by
        cases stop with
        | false => exact .inl rfl
        | true => exact .inr ⟨fun same => preamble ⟨rfl, same⟩, fun same => delimiter ⟨rfl, same⟩⟩
      rw [huntChar_of_other other]
      refine ⟨by simp, by simp [enterSkip], by simp [enterSkip, afterCharacter_idle],
        by simp [enterSkip, afterCharacter_low], fun found => absurd found preamble,
        fun found => absurd found delimiter, fun _ => by simp [enterSkip], ?_⟩
      apply State.ext_blocks <;> simp

/-! #### The bytes of a frame (R23, R25) -/

section Bytes
variable {s : State} {b : Byte} {stop level : Bool}

/-- The part after a character in HEADER or BODY that the buffer alone keeps. -/
theorem exec_keeps_byte {rx : RxState} {buf : FrameBuffer} (framing : s.Framing rx) (in_frame : rx ≠ .hunt)
    (kept : receiveChar b stop (endCharacter level s) =
      (endCharacter level s).withLrv { (endCharacter level s).lrv with buffer := buf }) :
    exec (.characterEnd b stop level) s = .next { s with
      lrx := level
      clc := { s.clc with idleCount := none }
      lrv := { s.lrv.afterCharacter level with buffer := buf } } := by
  have not_hunt : ((endCharacter level s).withLrv { (endCharacter level s).lrv with buffer := buf }).lrv.rx ≠ .hunt := by
    simpa [framing.1] using in_frame
  refine congrArg Host.Outcome.next ?_
  rw [characterEnd_of_framing framing, kept, syncIdle_of_not_hunt not_hunt]
  apply State.ext_blocks <;> simp

theorem headerChar_of_short (short : s.lrv.buffer.hdr.length < 5) :
    headerChar b s = s.withLrv { s.lrv with buffer := { s.lrv.buffer with
      hdr := s.lrv.buffer.hdr ++ [b], crc := crcByte s.lrv.buffer.crc b } } := by
  refine if_neg ?_
  simp only [State.withLrv_lrv, List.length_append, List.length_singleton, Config.headerBytes]
  omega

theorem headerChar_of_sixth (five : s.lrv.buffer.hdr.length = 5) :
    headerChar b s = headerComplete (s.withLrv { s.lrv with buffer := { s.lrv.buffer with
      hdr := s.lrv.buffer.hdr ++ [b], crc := crcByte s.lrv.buffer.crc b } }) := by
  refine if_pos ?_
  simp [five, Config.headerBytes]

end Bytes

theorem headerByteIsKept : Claim.HeaderByteIsKept := by
  intro s b level framing short
  refine exec_keeps_byte framing (by decide) ?_
  rw [receiveChar_of_header framing.endCharacter, headerChar_of_short (by simpa using short)]
  simp

theorem bodyByteIsKept : Claim.BodyByteIsKept := by
  intro s b level framing job
  have body : receiveChar b true (endCharacter level s) = bodyChar b (endCharacter level s) := by
    rw [receiveChar_of_body framing.endCharacter, finishClassification_of_none (by simpa using job)]
  refine ⟨fun more => ?_, fun full first => ?_⟩
  · refine exec_keeps_byte framing (by decide) ?_
    rw [body, bodyChar_of_payload (by simpa using more)]
    simp
  · refine exec_keeps_byte framing (by decide) ?_
    rw [body, bodyChar_of_check (by simpa using full) (by simpa using first)]
    simp

/-- Settles O16: the bytes that only the buffer and its CRC take. -/
theorem bytesOfAFrameAreKept : Obligations.BytesOfAFrameAreKept := ⟨headerByteIsKept, bodyByteIsKept⟩

end Sys2Proof.Machine
end

section
/-! ### Header completion (R20, R23, R24, R42, R45, R65, R134) -/

namespace Sys2Proof.Machine

section Completion
variable {s : State} {h : Header}

theorem headerComplete_of_invalid (invalid : (headerOf s.lrv.buffer.hdr).valid = false) :
    headerComplete s = enterSkip (count .headerErrors s) := if_pos (by simp [invalid])

theorem headerComplete_of_foreign (valid : (headerOf s.lrv.buffer.hdr).valid = true)
    (foreign : (headerOf s.lrv.buffer.hdr).format ≠ 0) : headerComplete s = enterSkip (count .foreign s) :=
  (if_neg (by simp [valid])).trans (if_pos foreign)

theorem headerComplete_of_good (valid : (headerOf s.lrv.buffer.hdr).valid = true)
    (format : (headerOf s.lrv.buffer.hdr).format = 0) :
    headerComplete s = (handOn (headerOf s.lrv.buffer.hdr) s).withLrv
      { (handOn (headerOf s.lrv.buffer.hdr) s).lrv with rx := .body } :=
  (if_neg (by simp [valid])).trans (if_neg (not_not_intro format))

/-! #### What the blocks receive (Tables 23 and 57) -/

/-- The relation of a frame with this header to its source's history, as the tracker takes it in hand (R42). -/
def State.relationTo (h : Header) (s : State) : Relation :=
  relationOf s.srt.table h.source h.seq (h.sendToPart s.cfg.ownAddress)

theorem handOn_srt : (handOn h s).srt =
    if h.tracked then
      { s.srt with
        inHand := some ⟨h.source, h.seq, h.kind, h.dest, h.sendToPart s.cfg.ownAddress, s.relationTo h⟩ }
    else s.srt := by
  by_cases tracked : h.tracked = true
  · simp only [handOn, tracked, if_true]
    split <;> split <;> simp [State.relationTo]
  · simp [handOn, tracked]

theorem handOn_acf : (handOn h s).acf =
    if h.tracked = true ∧ h.forPart s.cfg.ownAddress = true ∧ s.relationTo h ≠ .duplicate then
      { s.acf with job := some ⟨h, s.relationTo h, searchFrom h 0 s.acf.table⟩ }
    else s.acf := by
  by_cases tracked : h.tracked = true
  · by_cases searched : h.forPart s.cfg.ownAddress = true ∧ s.relationTo h ≠ .duplicate
    · rw [if_pos ⟨tracked, searched⟩]
      rw [State.relationTo] at searched
      simp only [handOn, tracked, if_true]
      split <;> simp [State.relationTo, searched]
    · rw [if_neg fun all => searched all.2]
      rw [State.relationTo] at searched
      simp only [handOn, tracked, if_true]
      split <;> simp [searched]
  · simp [handOn, tracked]

theorem handOn_rsp : (handOn h s).rsp =
    if h.tracked = true ∧ h.sendToPart s.cfg.ownAddress = true then
      { s.rsp with
        inputs := some ⟨h.source, h.seq, (s.relationTo h).relClass,
          if s.relationTo h = .duplicate then (sourceEntry s.srt.table h.source).bind (·.lastVerdict) else none,
          none, none⟩ }
    else s.rsp := by
  by_cases tracked : h.tracked = true
  · by_cases part : h.sendToPart s.cfg.ownAddress = true
    · rw [if_pos ⟨tracked, part⟩]
      simp only [handOn, tracked, if_true, if_pos part]
      split <;> simp [State.relationTo, part]
    · rw [if_neg fun all => part all.2]
      simp only [handOn, tracked, if_true, if_neg part]
      split <;> simp
  · simp [handOn, tracked]

theorem Header.sendToPart_eq (h : Header) (own : Byte) :
    h.sendToPart own = decide (h.kind = .send ∧ h.dest = own) := by
  rw [Header.sendToPart, Bool.decide_and]
  rfl

theorem Header.forPart_iff {own : Byte} :
    h.forPart own = true ↔ h.kind = .publish ∨ decide (h.kind = .send ∧ h.dest = own) = true := by
  rw [Header.forPart, Bool.or_eq_true, decide_eq_true_iff, Header.sendToPart_eq]

theorem Header.tracked_iff : h.tracked = true ↔ h.kind = .publish ∨ h.kind = .send := decide_eq_true_iff

end Completion

/-- The part when the sixth byte of a header has joined the buffer (R23). -/
def sixthByte (b : Byte) (level : Bool) (s : State) : State :=
  (endCharacter level s).withLrv { (endCharacter level s).lrv with buffer := { (endCharacter level s).lrv.buffer with
    hdr := (endCharacter level s).lrv.buffer.hdr ++ [b], crc := crcByte (endCharacter level s).lrv.buffer.crc b } }

section Sixth
variable {s : State} {b : Byte} {level : Bool}

theorem sixthByte_lrv : (sixthByte b level s).lrv = { s.lrv.afterCharacter level with
    buffer := { s.lrv.buffer with hdr := s.lrv.buffer.hdr ++ [b], crc := crcByte s.lrv.buffer.crc b } } := by
  simp [sixthByte]

theorem sixthByte_frame :
    (sixthByte b level s).lrx = level ∧ (sixthByte b level s).inReset = s.inReset ∧
      (sixthByte b level s).cfg = s.cfg ∧ (sixthByte b level s).tkg = s.tkg ∧ (sixthByte b level s).clc = s.clc ∧
      (sixthByte b level s).srt = s.srt ∧ (sixthByte b level s).acf = s.acf ∧ (sixthByte b level s).rxq = s.rxq ∧
      (sixthByte b level s).lvs = s.lvs ∧ (sixthByte b level s).rsp = s.rsp ∧ (sixthByte b level s).nwc = s.nwc ∧
      (sixthByte b level s).cmu = s.cmu ∧ (sixthByte b level s).ctb = s.ctb ∧ (sixthByte b level s).spi = s.spi ∧
      (sixthByte b level s).pending = s.pending := by
  simp [sixthByte]

theorem sixthByte_cfg : (sixthByte b level s).cfg = s.cfg := by simp [sixthByte]
theorem sixthByte_srt : (sixthByte b level s).srt = s.srt := by simp [sixthByte]
theorem sixthByte_acf : (sixthByte b level s).acf = s.acf := by simp [sixthByte]
theorem sixthByte_rsp : (sixthByte b level s).rsp = s.rsp := by simp [sixthByte]
theorem sixthByte_ctb : (sixthByte b level s).ctb = s.ctb := by simp [sixthByte]

theorem sixthByte_header :
    headerOf (sixthByte b level s).lrv.buffer.hdr = headerOf (s.lrv.buffer.hdr ++ [b]) := by
  rw [sixthByte_lrv]

theorem exec_sixthByte (framing : s.Framing .header) (five : s.lrv.buffer.hdr.length = 5) :
    exec (.characterEnd b true level) s = .next (syncIdle (headerComplete (sixthByte b level s))) := by
  refine congrArg Host.Outcome.next ?_
  rw [characterEnd_of_framing framing, receiveChar_of_header framing.endCharacter,
    headerChar_of_sixth (by simpa using five)]
  rfl

end Sixth

theorem enterSkip_ctb (s : State) : (enterSkip s).ctb = s.ctb := by simp

/-- What a header that is counted and skipped leaves, whichever counter it is. -/
theorem skippedHeader {s : State} {b : Byte} {level : Bool} (k : Counter) :
    let t := syncIdle (enterSkip (count k (sixthByte b level s)))
    t.lrv = { s.lrv.afterCharacter level with
        rx := .skip
        mode := .framed
        skipIdle := some 0
        buffer := { s.lrv.buffer with
          hdr := s.lrv.buffer.hdr ++ [b], crc := crcByte s.lrv.buffer.crc b } } ∧
      t.ctb.live.get k = min 65535 (s.ctb.live.get k + 1) ∧
      (∀ j ≠ k, t.ctb.live.get j = s.ctb.live.get j) ∧
      t = { s with lrx := level, clc := { s.clc with idleCount := none }, lrv := t.lrv, nwc := t.nwc, ctb := t.ctb } := by
  dsimp only
  have not_hunt : (enterSkip (count k (sixthByte b level s))).lrv.rx ≠ .hunt := by simp [enterSkip]
  refine ⟨?_, ?_, fun j ne => ?_, ?_⟩
  · simp [enterSkip, sixthByte_lrv]
  · rw [syncIdle_ctb, enterSkip_ctb, get_count, sixthByte_ctb]
  · rw [syncIdle_ctb, enterSkip_ctb, get_count_of_ne ne,
      sixthByte_ctb]
  · apply State.ext_blocks <;> simp [sixthByte_frame, syncedIdle_of_not_hunt not_hunt]

theorem badHeaderIsSkipped : Claim.BadHeaderIsSkipped := by
  intro s b level framing five h bad
  have header : headerOf (sixthByte b level s).lrv.buffer.hdr = h := sixthByte_header
  cases valid : h.valid with
  | false =>
    obtain ⟨lrv, counted, others, frame⟩ := skippedHeader (s := s) (b := b) (level := level) .headerErrors
    have runs := exec_sixthByte (b := b) (level := level) framing five
    rw [headerComplete_of_invalid (header ▸ valid)] at runs
    exact ⟨_, runs, lrv, fun _ => ⟨counted, others _ (by decide)⟩, nofun, frame⟩
  | true =>
    obtain ⟨lrv, counted, others, frame⟩ := skippedHeader (s := s) (b := b) (level := level) .foreign
    have foreign : h.format ≠ 0 := bad.resolve_left (by simp [valid])
    have runs := exec_sixthByte (b := b) (level := level) framing five
    rw [headerComplete_of_foreign (header ▸ valid) (header ▸ foreign)] at runs
    exact ⟨_, runs, lrv, nofun, fun _ => ⟨counted, others _ (by decide)⟩, frame⟩

theorem goodHeaderIsHandedOn : Claim.GoodHeaderIsHandedOn := by
  intro s b level framing five h valid format toPart rel
  have header : headerOf (sixthByte b level s).lrv.buffer.hdr = h := sixthByte_header
  have own : (sixthByte b level s).cfg.ownAddress = s.cfg.ownAddress := by rw [sixthByte_cfg]
  have part : h.sendToPart s.cfg.ownAddress = toPart := h.sendToPart_eq _
  have relation : (sixthByte b level s).relationTo h = rel := by
    rw [State.relationTo, own, part, sixthByte_srt]
  have runs := exec_sixthByte (b := b) (level := level) framing five
  rw [headerComplete_of_good (header ▸ valid) (header ▸ format), header] at runs
  have srt := handOn_srt (h := h) (s := sixthByte b level s)
  have acf := handOn_acf (h := h) (s := sixthByte b level s)
  have rsp := handOn_rsp (h := h) (s := sixthByte b level s)
  rw [own, part, relation, sixthByte_srt] at srt rsp
  rw [own, relation, sixthByte_acf] at acf
  rw [sixthByte_rsp] at rsp
  refine ⟨_, runs, ?lrv, fun kind => ?tracked, fun kind => ?response, fun searched => ?searched, fun no => ?not_searched,
    fun mine => ?to_part, fun no => ?not_to_part, ?frame⟩
  case lrv => simp [sixthByte_lrv]
  case tracked =>
    rw [syncIdle_srt, State.withLrv_srt, srt, if_pos (Header.tracked_iff.mpr kind)]
  case response =>
    have untracked : ¬h.tracked = true := by simp [Header.tracked_iff, kind]
    rw [syncIdle_srt, State.withLrv_srt, srt, if_neg untracked]
  case searched =>
    have tracked : h.tracked = true := Header.tracked_iff.mpr (searched.1.imp_right fun mine => (of_decide_eq_true mine).1)
    rw [syncIdle_acf, State.withLrv_acf, acf, if_pos ⟨tracked, Header.forPart_iff.mpr searched.1, searched.2⟩]
  case not_searched =>
    rw [syncIdle_acf, State.withLrv_acf, acf, if_neg fun all => no (all.2.imp_left Header.forPart_iff.mp)]
  case to_part =>
    have tracked : h.tracked = true := Header.tracked_iff.mpr (.inr (of_decide_eq_true mine).1)
    rw [syncIdle_rsp, State.withLrv_rsp, rsp, if_pos ⟨tracked, mine⟩]
    rfl
  case not_to_part =>
    rw [syncIdle_rsp, State.withLrv_rsp, rsp, if_neg fun all => by simp [no] at all]
  case frame =>
    apply State.ext_blocks
    case clc => rw [syncIdle_clc, syncedIdle_of_not_hunt (by simp)]; simp [sixthByte_frame]
    all_goals simp [sixthByte_frame]

/-- Settles O15: the counted skip of a bad header, and what each block receives of a good one. -/
theorem headerCompletionHasThreeOutcomes : Obligations.HeaderCompletionHasThreeOutcomes :=
  ⟨badHeaderIsSkipped, goodHeaderIsHandedOn⟩

end Sys2Proof.Machine
end

section
/-! ### A frame that is dropped (R26, R28, R30, R31, R37) -/

namespace Sys2Proof.Machine

section Classified
variable {s : State} {left : Srt}

/-- What `State.classified` says is what classification completion leaves of the filter and the command unit. -/
theorem finishClassification_classified (s : State) :
    (finishClassification s).acf = s.classified.1 ∧ (finishClassification s).cmu = s.classified.2 := by
  cases job : s.acf.job with
  | none => simp [finishClassification_of_none job, State.classified, job]
  | some j => simp [finishClassification_eq job, State.classified, job]

/-- A classification that completes leaves a source command waiting, and makes none. -/
theorem finishClassification_sourceWaits (s : State) : (finishClassification s).sourceWaits = s.sourceWaits := by
  cases waits : s.sourceWaits with
  | true => rw [← waits]; exact sourceWaits_congr (finishClassification_cmu_of_sourceWaits waits)
  | false =>
    cases job : s.acf.job with
    | none => rw [finishClassification_of_none job, waits]
    | some j =>
      rw [finishClassification_eq job]
      obtain ⟨done, -⟩ | ⟨same, -⟩ :=
        entryRun_cmu (s := s) { s.acf with job := none, held := some ⟨classify s.cfg s.acf.hash j, false⟩ }
      · simp [State.sourceWaits, done]
      · exact (sourceWaits_congr same).trans waits

theorem sourceRun_of_not_waits (waits : s.sourceWaits = false) : s.sourceRun left = (left, s.cmu) := by
  cases busy : s.cmu.inFlight with
  | none => simp [State.sourceRun, busy]
  | some f =>
    have not_source : f.cmd.isSource = false := by simpa [State.sourceWaits, busy] using waits
    simp [State.sourceRun, busy, not_source]

theorem finishClassification_tkg : (finishClassification s).tkg = s.tkg := by simp

/-- The source command's turn finds the same table whether the classification completes before it or not. -/
theorem finishClassification_sourceRun (waits : s.sourceWaits = true) :
    (finishClassification s).sourceRun left = s.sourceRun left :=
  sourceRun_congr left (finishClassification_cmu_of_sourceWaits waits) finishClassification_tkg

theorem finishClassification_sourceRun_srt : ((finishClassification s).sourceRun left).1 = (s.sourceRun left).1 := by
  cases waits : s.sourceWaits with
  | true => rw [finishClassification_sourceRun waits]
  | false =>
    rw [sourceRun_of_not_waits waits, sourceRun_of_not_waits ((finishClassification_sourceWaits s).trans waits)]

theorem finishClassification_done (entry : s.entryWaits = true) (job : s.acf.job ≠ none) :
    Flag.cmdDone.isIn (finishClassification s).nwc.flags = true := by
  obtain ⟨j, job⟩ := Option.ne_none_iff_exists'.mp job
  simp [finishClassification_eq job, Nwc.doneIf, entry]

/-- Of the queue, classification completion changes the claim and the arm. -/
theorem classifiedRxq_eq (s : State) :
    s.classifiedRxq = { s.rxq with claim := s.classifiedRxq.claim, arm := s.classifiedRxq.arm } := by
  unfold State.classifiedRxq
  split
  · rfl
  · unfold Rxq.classified
    split <;> rfl

/-- Of the responder, classification completion changes the inputs of the verdict. -/
theorem finishClassification_rsp (s : State) :
    (finishClassification s).rsp = { s.rsp with inputs := (finishClassification s).rsp.inputs } := by
  cases job : s.acf.job with
  | none => rw [finishClassification_of_none job]
  | some j => rw [finishClassification_eq job]

end Classified

/-! #### What `State.FrameDropped` depends on -/

namespace State.FrameDropped
variable {s e t t' : State}

/-- The counts, the flags, the level and the receiver before the loss do not matter. -/
theorem of_before (dropped : State.FrameDropped e t)
    (before : e = { s with
      lrx := e.lrx, clc := { s.clc with idleCount := e.clc.idleCount }, lrv := e.lrv, nwc := e.nwc, ctb := e.ctb }) :
    State.FrameDropped s t := by
  rw [before] at dropped
  exact dropped

/-- Nor do they after it, as long as CMD_DONE stays. -/
theorem and_then (dropped : State.FrameDropped s t)
    (after : t' = { t with
      lrx := t'.lrx, clc := { t.clc with idleCount := t'.clc.idleCount }, lrv := t'.lrv, nwc := t'.nwc, ctb := t'.ctb })
    (stays : Flag.cmdDone.isIn t.nwc.flags = true → Flag.cmdDone.isIn t'.nwc.flags = true) :
    State.FrameDropped s t' := by
  obtain ⟨srt, acf, cmu, done, rxq, lvs, rsp, frame⟩ := dropped
  rw [after]
  refine ⟨srt, acf, cmu, fun waited => stays (done waited), rxq, lvs, rsp, ?_⟩
  rw [frame]

/-- A frame dropped once its classification has completed is dropped with that classification in flight. -/
theorem of_finished (dropped : State.FrameDropped (finishClassification s) t)
    (stays : Flag.cmdDone.isIn (finishClassification s).nwc.flags = true → Flag.cmdDone.isIn t.nwc.flags = true) :
    State.FrameDropped s t := by
  obtain ⟨srt, acf, cmu, done, rxq, lvs, rsp, frame⟩ := dropped
  obtain ⟨acf_eq, cmu_eq⟩ := finishClassification_classified s
  have finished : (finishClassification s).classified = s.classified := by
    rw [State.classified, finishClassification_job]
    exact Prod.ext acf_eq cmu_eq
  have table : (finishClassification s).srt = s.srt := by simp
  refine ⟨?_, finished ▸ acf, ?_, ?_, ?_, ?_, ?_, ?_⟩
  · rw [srt, finishClassification_sourceRun_srt, table]
  · rw [cmu, finished, finishClassification_sourceWaits, table]
    cases waits : s.sourceWaits with
    | true => rw [if_pos rfl, if_pos rfl, finishClassification_sourceRun waits]
    | false => rfl
  · rintro (source | ⟨entry, job⟩)
    · exact done (.inl ((finishClassification_sourceWaits s).trans source))
    · exact stays (finishClassification_done entry job)
  · rw [rxq, finishClassification_rxq, classifiedRxq_eq]
  · rw [lvs, finishClassification_lvs]
  · rw [rsp, finishClassification_rsp]
  · rw [frame]
    apply State.ext_blocks <;> simp

end State.FrameDropped

section Lost
variable {s e : State}

theorem loseFrame_dropped_of_no_job (job : s.acf.job = none) : State.FrameDropped s (loseFrame s) := by
  have idle : finishClassification s = s := finishClassification_of_none job
  have classified : s.classified = (s.acf, s.cmu) := by simp [State.classified, job]
  refine ⟨?_, ?_, ?_, ?_, ?_, loseFrame_lvs, ?_, ?_⟩
  · rw [loseFrame_srt, idle]
  · rw [loseFrame_acf, idle, classified]
  · rw [loseFrame_cmu, idle, classified]
    cases waits : s.sourceWaits with
    | true => rfl
    | false => rw [sourceRun_of_not_waits waits, if_neg Bool.false_ne_true]
  · rintro (source | ⟨-, other⟩)
    · simp [loseFrame_nwc, idle, source, Nwc.doneIf]
    · exact absurd job other
  · rw [loseFrame_rxq, idle, Rxq.abandon_eq]
  · rw [loseFrame_rsp, idle]
  · apply State.ext_blocks <;> simp

theorem loseFrame_finished (s : State) : loseFrame s = loseFrame (finishClassification s) := by
  rw [loseFrame, loseFrame, finishClassification_idem]

/-- What `State.FrameDropped` says is what the loss of a frame does (R28). -/
theorem loseFrame_dropped (s : State) : State.FrameDropped s (loseFrame s) := by
  rw [loseFrame_finished]
  exact (loseFrame_dropped_of_no_job finishClassification_job).of_finished ((loseFrame_raised _).stays _)

/-- A counted loss. -/
theorem loseFrame_count_dropped (k : Counter) (s : State) : State.FrameDropped s (loseFrame (count k s)) :=
  (loseFrame_dropped (count k s)).of_before (by apply State.ext_blocks <;> simp)

theorem syncIdle_dropped {t : State} (dropped : State.FrameDropped s t) : State.FrameDropped s (syncIdle t) :=
  dropped.and_then (by apply State.ext_blocks <;> simp) (by simp)

theorem loseToSkip_dropped (k : Counter) (s : State) : State.FrameDropped s (syncIdle (loseToSkip k s)) :=
  syncIdle_dropped ((loseFrame_count_dropped k s).and_then
    (by apply State.ext_blocks <;> simp [loseToSkip]) (by simp [loseToSkip]))

/-- A loss that ends in SKIP: the receiver, no idle hold, one count. -/
theorem loseToSkip_ends (k : Counter) (s : State) :
    let t := syncIdle (loseToSkip k s)
    t.lrv.rx = .skip ∧ t.lrv.skipIdle = some 0 ∧ t.clc.idleCount = none ∧
      t.ctb.live.get k = min 65535 (s.ctb.live.get k + 1) := by
  have skips_ne : (loseToSkip k s).lrv.rx ≠ .hunt := by simp [loseToSkip, enterSkip]
  refine ⟨by simp [loseToSkip, enterSkip], by simp [loseToSkip, enterSkip], ?_, ?_⟩
  · rw [syncIdle_clc, syncedIdle_of_not_hunt skips_ne]
  · rw [syncIdle_ctb, loseToSkip_ctb, get_count]

end Lost

/-! #### The three counted losses -/

theorem endCharacter_before {s t : State} {level : Bool} (dropped : State.FrameDropped (endCharacter level s) t) :
    State.FrameDropped s t :=
  dropped.of_before (by apply State.ext_blocks <;> simp)

theorem framingErrorDropsTheFrame : Claim.FramingErrorDropsTheFrame := by
  intro s b level framing
  obtain header | body := framing
  · have lost : exec (.characterEnd b false level) s =
        .next (syncIdle (loseToSkip .framingErrors (endCharacter level s))) := by
      refine congrArg Host.Outcome.next ?_
      rw [characterEnd_of_framing header, receiveChar_of_header_low header.endCharacter]
    obtain ⟨rx, skip, idle, counted⟩ := loseToSkip_ends .framingErrors (endCharacter level s)
    exact ⟨_, lost, rx, skip, idle, by simpa using counted, endCharacter_before (loseToSkip_dropped _ _)⟩
  · have lost : exec (.characterEnd b false level) s =
        .next (syncIdle (loseToSkip .framingErrors (finishClassification (endCharacter level s)))) := by
      refine congrArg Host.Outcome.next ?_
      rw [characterEnd_of_framing body, receiveChar_of_body_low body.endCharacter]
    obtain ⟨rx, skip, idle, counted⟩ := loseToSkip_ends .framingErrors (finishClassification (endCharacter level s))
    refine ⟨_, lost, rx, skip, idle, by simpa using counted, endCharacter_before (level := level) ?_⟩
    refine (loseToSkip_dropped _ _).of_finished fun pending => ?_
    rw [syncIdle_nwc]
    exact (loseToSkip_raised _ _).stays _ pending

theorem truncationDropsTheFrame : Claim.TruncationDropsTheFrame := by
  intro s in_frame idle
  have lost : exec .truncation s =
      .next (syncIdle (loseToSkip .truncated (s.withLrv { s.lrv with idle := some Config.frameGap }))) :=
    congrArg Host.Outcome.next (if_pos ⟨decide_eq_true in_frame, idle⟩)
  obtain ⟨rx, skip, no_hold, counted⟩ :=
    loseToSkip_ends .truncated (s.withLrv { s.lrv with idle := some Config.frameGap })
  exact ⟨_, lost, rx, skip, no_hold, counted, (loseToSkip_dropped _ _).of_before rfl⟩

/-- The part when this byte has joined the buffer as the second check character (R25). -/
def lastCheck (b : Byte) (level : Bool) (s : State) : State :=
  (endCharacter level s).withLrv { (endCharacter level s).lrv with buffer := { s.lrv.buffer with
    checks := s.lrv.buffer.checks + 1, crc := crcByte s.lrv.buffer.crc b } }

section Check
variable {s : State} {b : Byte} {level : Bool}

theorem lastCheck_lrv : (lastCheck b level s).lrv = { s.lrv.afterCharacter level with
    buffer := { s.lrv.buffer with checks := s.lrv.buffer.checks + 1, crc := crcByte s.lrv.buffer.crc b } } := by
  simp [lastCheck]

theorem lastCheck_eq : lastCheck b level s = { s with lrx := level, lrv := (lastCheck b level s).lrv } := by
  apply State.ext_blocks <;> simp [lastCheck]

theorem finishClassification_endCharacter (level : Bool) (s : State) :
    finishClassification (endCharacter level s) = endCharacter level (finishClassification s) := by
  have same : (endCharacter level s).acf = s.acf := by simp
  cases job : s.acf.job with
  | none => rw [finishClassification_of_none job, finishClassification_of_none (by rw [same, job])]
  | some j =>
    rw [finishClassification_eq job, finishClassification_eq (j := j) (by rw [same, job])]
    rfl

/-- The second check character ends the frame, after its classification. -/
theorem exec_lastByte (framing : s.Framing .body)
    (full : (headerOf s.lrv.buffer.hdr).length ≤ s.lrv.buffer.payload.length) (last : 1 ≤ s.lrv.buffer.checks) :
    exec (.characterEnd b true level) s =
      .next (syncIdle (checkComplete (lastCheck b level (finishClassification s)))) := by
  refine congrArg Host.Outcome.next ?_
  rw [characterEnd_of_framing framing, receiveChar_of_body framing.endCharacter, finishClassification_endCharacter,
    bodyChar_of_last (by simpa using full) (by simpa using last)]
  simp [lastCheck]

theorem exec_lastCheck (at_check : s.AtCheck) :
    exec (.characterEnd b true level) s = .next (syncIdle (checkComplete (lastCheck b level s))) := by
  obtain ⟨framing, job, full, last⟩ := at_check
  rw [exec_lastByte framing full last.ge, finishClassification_of_none job]

theorem checkComplete_of_good (good : s.lrv.buffer.crc = 0) : checkComplete s = commitFrame s := if_pos good

theorem checkComplete_of_bad (bad : s.lrv.buffer.crc ≠ 0) :
    checkComplete s = enterHunt (loseFrame (count .checkErrors s)) := if_neg bad

end Check

theorem enterHunt_dropped {s t : State} (dropped : State.FrameDropped s t) : State.FrameDropped s (enterHunt t) :=
  dropped.and_then (by apply State.ext_blocks <;> simp) (by simp)

theorem failedCheckDropsTheFrame : Claim.FailedCheckDropsTheFrame := by
  intro s b level at_check bad
  have failed : (lastCheck b level s).lrv.buffer.crc ≠ 0 := by simpa [lastCheck] using bad
  have runs := exec_lastCheck (b := b) (level := level) at_check
  rw [checkComplete_of_bad failed] at runs
  refine ⟨_, runs, by simp [enterHunt], by simp [enterHunt], fun line none_runs => ?_, ?_, ?_⟩
  · rw [syncIdle_clc]
    have free := at_check.1.2.2
    simpa [lastCheck] using syncedIdle_of_loads (s := enterHunt (loseFrame (count .checkErrors (lastCheck b level s))))
      (by simpa [lastCheck] using line) (by simp [enterHunt]) (by simpa [lastCheck] using free)
      (by simpa [lastCheck] using none_runs)
  · rw [syncIdle_ctb]
    simp [get_count, lastCheck]
  · exact syncIdle_dropped (enterHunt_dropped ((loseFrame_count_dropped _ _).of_before lastCheck_eq))

/-- Settles O17: each counted loss is `loseFrame` of the state with the count taken, and `State.FrameDropped` says what
that leaves. -/
theorem lostFrameIsDropped : Obligations.LostFrameIsDropped :=
  ⟨framingErrorDropsTheFrame, truncationDropsTheFrame, failedCheckDropsTheFrame⟩

end Sys2Proof.Machine
end

section
/-! ### SKIP and STUCK, and the source command that waits for the end of a frame (R32, R33, R34, R51, R52) -/

namespace Sys2Proof.Machine

theorem skipIgnoresAndEnds : Claim.SkipIgnoresAndEnds := by
  refine ⟨fun s b stop level framing => ?ignores, fun s skip counts idle => ?ends⟩
  case ignores =>
    have ignored : exec (.characterEnd b stop level) s = .next (syncIdle (endCharacter level s)) := by
      refine congrArg Host.Outcome.next ?_
      rw [characterEnd_of_framing framing, receiveChar_of_no_frame (.inr (.inl framing.endCharacter))]
    have not_hunt : (endCharacter level s).lrv.rx ≠ .hunt := by simp [framing.1]
    refine ⟨_, ignored, by simp [framing.1], ?_⟩
    apply State.ext_blocks <;> simp [syncedIdle_of_not_hunt not_hunt]
  case ends =>
    refine ⟨_, congrArg Host.Outcome.next (if_pos ⟨skip, counts, idle⟩), by simp [enterHunt], by simp [enterHunt],
      by simp [enterHunt], fun line free none_runs => ?_, ?_⟩
    · rw [syncIdle_clc]
      exact syncedIdle_of_loads line rfl free none_runs
    · apply State.ext_blocks <;> simp

section Stuck
variable {s : State}

/-- The part as STUCK is entered from this one: the receiver stops, LINE_FAULT is set (R33). -/
def enterStuck (s : State) : State :=
  syncIdle (raise .lineFault (s.withLrv
    { s.lrv with rx := .stuck, mode := .framed, low := none, high := none, skipIdle := none }))

theorem stuck_of_low (line : s.clc.line = .active) (not_stuck : s.lrv.rx ≠ .stuck) (low : s.lrv.low.isSome = true)
    (free : s.lrv.charBusy = false) : stuck s = enterStuck (if s.frameInFlight then loseFrame s else s) :=
  if_pos ⟨line, not_stuck, low, free⟩

@[simp] theorem enterStuck_lrv : (enterStuck s).lrv =
    { s.lrv with rx := .stuck, mode := .framed, low := none, high := none, skipIdle := none } := by
  simp [enterStuck]

@[simp] theorem enterStuck_nwc : (enterStuck s).nwc = s.nwc.raise .lineFault := by simp [enterStuck]

theorem enterStuck_eq :
    enterStuck s = { s with
      clc := { s.clc with idleCount := none }, lrv := (enterStuck s).lrv, nwc := s.nwc.raise .lineFault } := by
  have not_hunt : (raise .lineFault (s.withLrv
      { s.lrv with rx := .stuck, mode := .framed, low := none, high := none, skipIdle := none })).lrv.rx ≠ .hunt := by
    simp
  apply State.ext_blocks <;> simp [enterStuck, syncedIdle_of_not_hunt not_hunt]

theorem enterStuck_dropped {t : State} (dropped : State.FrameDropped s t) : State.FrameDropped s (enterStuck t) := by
  refine dropped.and_then ?_ fun pending => by simp [pending]
  rw [enterStuck_eq]

theorem stuck_in_frame (line : s.clc.line = .active) (in_frame : s.lrv.rx = .header ∨ s.lrv.rx = .body)
    (low : s.lrv.low.isSome = true) (free : s.lrv.charBusy = false) : stuck s = enterStuck (loseFrame s) := by
  have not_stuck : s.lrv.rx ≠ .stuck := by obtain rx | rx := in_frame <;> simp [rx]
  rw [stuck_of_low line not_stuck low free, if_pos ((frameInFlight_iff s).mpr in_frame)]

end Stuck

theorem stuckLineIsEnteredAndLeft : Claim.StuckLineIsEnteredAndLeft := by
  refine ⟨fun s line not_stuck low free => ?enters, fun s stuck high => ?ends⟩
  case enters =>
    by_cases in_frame : s.lrv.rx = .header ∨ s.lrv.rx = .body
    · have lost := stuck_in_frame line in_frame low free
      refine ⟨_, congrArg Host.Outcome.next lost, by simp, by simp, by simp, by rw [enterStuck_eq], by simp,
        by rw [enterStuck_eq]; simp, fun _ => enterStuck_dropped (loseFrame_dropped s),
        fun no_header no_body => absurd in_frame (not_or.mpr ⟨no_header, no_body⟩)⟩
    · have plain : stuck s = enterStuck s := by
        rw [stuck_of_low line not_stuck low free, if_neg fun frame => in_frame ((frameInFlight_iff s).mp frame)]
      exact ⟨_, congrArg Host.Outcome.next plain, by simp, by simp, by simp, by rw [enterStuck_eq], by simp,
        by rw [enterStuck_eq], fun frame => absurd frame in_frame, fun _ _ => enterStuck_eq⟩
  case ends =>
    refine ⟨_, congrArg Host.Outcome.next (if_pos ⟨stuck, high⟩), by simp [enterHunt], by simp [enterHunt],
      by simp [enterHunt], by simp, fun line free none_runs => ?_, ?_⟩
    · rw [syncIdle_clc]
      exact syncedIdle_of_loads line rfl free none_runs
    · apply State.ext_blocks <;> simp

/-- Settles O18: SKIP hears characters and ends by idle; STUCK drops a frame in flight and ends by a high line. -/
theorem skipAndStuckEnd : Obligations.SkipAndStuckEnd := ⟨skipIgnoresAndEnds, stuckLineIsEnteredAndLeft⟩

/-! #### A source command that waits (R51, R52) -/

/-- The source tracker as the end of the frame leaves it, ahead of a command that waits. -/
def State.leftBy (e : FrameEnding) (s : State) : Srt :=
  match e with
  | .characterEnd b true _ =>
    if crcByte s.lrv.buffer.crc b = 0 then
      s.srt.commit ((finishClassification s).rsp.inputs.bind fixVerdict) s.tkg.tickCount
    else { s.srt with inHand := none }
  | _ => { s.srt with inHand := none }

/-- A source command that waited has run on this table. -/
def State.SourceRan (left : Srt) (s t : State) : Prop :=
  t.srt = (s.sourceRun left).1 ∧ t.cmu = (s.sourceRun left).2 ∧ Flag.cmdDone.isIn t.nwc.flags = true

section Waiting
variable {s t : State} {e : FrameEnding}

theorem State.FrameDropped.sourceRan (dropped : State.FrameDropped s t) (waits : s.sourceWaits = true) :
    s.SourceRan { s.srt with inHand := none } t := by
  obtain ⟨srt, -, cmu, done, -⟩ := dropped
  exact ⟨srt, by rw [cmu, if_pos waits], done (.inl waits)⟩

theorem commitFrame_sourceRan (waits : s.sourceWaits = true) :
    s.SourceRan s.committedSrt (syncIdle (commitFrame s)) := by
  refine ⟨by rw [syncIdle_srt, commitFrame_srt], by rw [syncIdle_cmu, commitFrame_cmu], ?_⟩
  rw [syncIdle_nwc, commitFrame_nwc, waits]
  simp [Nwc.doneIf]

/-- The line event that ends a frame lets the source command run on the table it leaves. -/
theorem endsBody_sourceRan (waits : s.sourceWaits = true) (ends : s.EndsBody e) :
    s.SourceRan (s.leftBy e) (endingEvent e s) := by
  cases e with
  | truncation =>
    obtain ⟨body, idle⟩ := ends
    obtain ⟨t, runs, -, -, -, -, dropped⟩ := truncationDropsTheFrame s (.inr body) idle
    obtain rfl : endingEvent .truncation s = t := Host.Outcome.next.inj runs
    exact dropped.sourceRan waits
  | entryToStuck =>
    obtain ⟨line, body, low, free⟩ := ends
    have lost : endingEvent .entryToStuck s = enterStuck (loseFrame s) := stuck_in_frame line (.inr body) low free
    rw [lost]
    exact (enterStuck_dropped (loseFrame_dropped s)).sourceRan waits
  | characterEnd b stop level =>
    obtain ⟨framing, last⟩ := ends
    cases stop with
    | false =>
      obtain ⟨t, runs, -, -, -, -, dropped⟩ := framingErrorDropsTheFrame s b level (.inr framing)
      obtain rfl : endingEvent (.characterEnd b false level) s = t := Host.Outcome.next.inj runs
      exact dropped.sourceRan waits
    | true =>
      obtain ⟨full, checks⟩ := last.resolve_left Bool.noConfusion
      have runs : endingEvent (.characterEnd b true level) s =
          syncIdle (checkComplete (lastCheck b level (finishClassification s))) :=
        Host.Outcome.next.inj (exec_lastByte framing full checks)
      have crc : (lastCheck b level (finishClassification s)).lrv.buffer.crc = crcByte s.lrv.buffer.crc b := by
        simp [lastCheck_lrv]
      rw [runs]
      by_cases good : crcByte s.lrv.buffer.crc b = 0
      · have left : s.leftBy (.characterEnd b true level) =
            (lastCheck b level (finishClassification s)).committedSrt := by
          rw [State.leftBy, if_pos good]
          simp [State.committedSrt, lastCheck]
        have cmu : (lastCheck b level (finishClassification s)).cmu = s.cmu := by
          simp [lastCheck, finishClassification_cmu_of_sourceWaits waits]
        have committed := commitFrame_sourceRan ((sourceWaits_congr cmu).trans waits)
        rw [checkComplete_of_good (crc.trans good), left]
        rwa [State.SourceRan, sourceRun_congr _ cmu (by simp [lastCheck])] at committed
      · have left : s.leftBy (.characterEnd b true level) = { s.srt with inHand := none } := if_neg good
        rw [checkComplete_of_bad (by rwa [crc]), left]
        refine (State.FrameDropped.of_finished (syncIdle_dropped (enterHunt_dropped
          ((loseFrame_count_dropped _ _).of_before lastCheck_eq))) fun pending => ?_).sourceRan waits
        have counted := (count_raised .checkErrors (lastCheck b level (finishClassification s))).trans
          (loseFrame_raised _)
        simpa using counted.stays _ (by simpa [lastCheck] using pending)

end Waiting

/-- Settles O22: the table the end of the frame leaves, and the command run on it. -/
theorem waitingSourceCommandRuns : Obligations.WaitingSourceCommandRuns := by
  intro s f e busy source _ ends
  have waits : s.sourceWaits = true := sourceWaits_iff.mpr ⟨f, busy, source⟩
  obtain ⟨srt, cmu, done⟩ := endsBody_sourceRan waits ends
  have run : s.sourceRun (s.leftBy e) =
      ((sourceEffect f.cmd f.arg s.tkg.tickCount (s.leftBy e)).1,
        s.cmu.ended f.cmd (sourceEffect f.cmd f.arg s.tkg.tickCount (s.leftBy e)).2) := by
    simp [State.sourceRun, busy, source]
  rw [run] at srt cmu
  have event : exec e.event s = .next (endingEvent e s) := by cases e <;> rfl
  have ran : (endingEvent e s).sourceWaits = false := by simp [State.sourceWaits, cmu, Cmu.ended]
  exact ⟨_, congrArg Host.Outcome.next (if_pos ⟨waits, ran⟩), event, srt, cmu, done⟩

end Sys2Proof.Machine
end

section
/-! ### Frame commit as the line sees it (R27, R46 to R50) -/

namespace Sys2Proof.Machine

/-- The part after a frame has been committed by this second check character (R26, R27). -/
def committed (b : Byte) (level : Bool) (s : State) : State := syncIdle (commitFrame (lastCheck b level s))

section Committed
variable {s : State} {b : Byte} {level : Bool}

theorem exec_commits (commits : s.Commits b) :
    exec (.characterEnd b true level) s = .next (committed b level s) := by
  obtain ⟨at_check, good⟩ := commits
  rw [exec_lastCheck at_check, checkComplete_of_good (by simpa [lastCheck_lrv] using good)]
  rfl

/-! #### What the line event leaves for the commit, and takes from it -/

theorem lastCheck_srt : (lastCheck b level s).srt = s.srt := by simp [lastCheck]
theorem lastCheck_acf : (lastCheck b level s).acf = s.acf := by simp [lastCheck]
theorem lastCheck_rxq : (lastCheck b level s).rxq = s.rxq := by simp [lastCheck]
theorem lastCheck_lvs : (lastCheck b level s).lvs = s.lvs := by simp [lastCheck]
theorem lastCheck_rsp : (lastCheck b level s).rsp = s.rsp := by simp [lastCheck]
theorem lastCheck_nwc : (lastCheck b level s).nwc = s.nwc := by simp [lastCheck]
theorem lastCheck_cmu : (lastCheck b level s).cmu = s.cmu := by simp [lastCheck]
theorem lastCheck_ctb : (lastCheck b level s).ctb = s.ctb := by simp [lastCheck]
theorem lastCheck_tkg : (lastCheck b level s).tkg = s.tkg := by simp [lastCheck]
theorem lastCheck_cfg : (lastCheck b level s).cfg = s.cfg := by simp [lastCheck]
theorem lastCheck_clc : (lastCheck b level s).clc = s.clc := by simp [lastCheck]

theorem committed_srt : (committed b level s).srt = (s.sourceRun s.committedSrt).1 := by
  have left : (lastCheck b level s).committedSrt = s.committedSrt := by
    rw [State.committedSrt, lastCheck_srt, lastCheck_rsp, lastCheck_tkg]
    rfl
  rw [committed, syncIdle_srt, commitFrame_srt, left, sourceRun_congr _ lastCheck_cmu lastCheck_tkg]

theorem committed_cmu : (committed b level s).cmu = (s.sourceRun s.committedSrt).2 := by
  have left : (lastCheck b level s).committedSrt = s.committedSrt := by
    rw [State.committedSrt, lastCheck_srt, lastCheck_rsp, lastCheck_tkg]
    rfl
  rw [committed, syncIdle_cmu, commitFrame_cmu, left, sourceRun_congr _ lastCheck_cmu lastCheck_tkg]

theorem committed_acf : (committed b level s).acf = s.acf.commit := by
  rw [committed, syncIdle_acf, commitFrame_acf, lastCheck_acf]

theorem committed_rxq : (committed b level s).rxq = s.rxq.commit s.tkg.tickCount s.lrv.buffer.payload := by
  simp [committed, lastCheck]

theorem committed_lvs : (committed b level s).lvs = s.lvs.commit s.slotUpdate := by
  simp [committed, lastCheck, State.slotUpdate]

theorem committed_rsp : (committed b level s).rsp = s.rsp.commit s.cfg.ownAddress := by
  rw [committed, syncIdle_rsp, commitFrame_rsp, lastCheck_rsp, lastCheck_cfg]

theorem committed_nwc : (committed b level s).nwc = (commitFrame (lastCheck b level s)).nwc := by
  rw [committed, syncIdle_nwc]

theorem committed_ctb : (committed b level s).ctb = (commitFrame (lastCheck b level s)).ctb := by
  rw [committed, syncIdle_ctb]

end Committed

/-! #### The counts of a commit, counter by counter -/

section Counts
variable {s : State} {k : Counter} {v : Option Verdict} {p : List Byte}

theorem commitFrame_ctb_of_queue (s : State) :
    (commitFrame s).ctb = (commitQueue s.lrv.buffer.payload (beforeQueue s)).ctb := by
  simp [commitFrame_ctb, commitBlocks, beforeQueue]

theorem get_commitFilter_filtered {held : HeldResult} (result : s.acf.held = some held) :
    (commitFilter s).ctb.live.get .filtered =
      if held.result.action = .discard then min 65535 (s.ctb.live.get .filtered + 1)
      else s.ctb.live.get .filtered := by
  simp only [commitFilter, result]
  split
  · exact get_count
  · rfl

theorem get_commitQueue_qfullDrops (claim : s.rxq.claim = .queueFull) :
    (commitQueue p s).ctb.live.get .qfullDrops = min 65535 (s.ctb.live.get .qfullDrops + 1) := by
  simp only [commitQueue, claim]
  exact get_count (s := s.withRxq { s.rxq with claim := .nothing })

theorem commitSource_of_inHand {r : InHand} (inHand : s.srt.inHand = some r) :
    commitSource v s = reportRelation r.relation (s.withSrt (s.srt.commit v s.tkg.tickCount)) := by
  simp only [commitSource, inHand]

/-- A counter that neither the filter nor the queue counts stands after the commit as the source tracker left it. -/
theorem get_commitFrame_of_source (filtered : k ≠ .filtered) (qfull : k ≠ .qfullDrops) :
    (commitFrame s).ctb.live.get k =
      (commitSource (s.rsp.inputs.bind fixVerdict) (count .framesGood s)).ctb.live.get k := by
  rw [commitFrame_ctb_of_queue, get_commitQueue_of_ne qfull, beforeQueue, get_commitFilter_of_ne filtered]

theorem get_commitFrame_framesGood :
    (commitFrame s).ctb.live.get .framesGood = min 65535 (s.ctb.live.get .framesGood + 1) := by
  rw [get_commitFrame_of_source (by decide) (by decide),
    get_commitSource_of_ne (by decide) (by decide) (by decide) (by decide), get_count]

theorem get_commitFrame_filtered {held : HeldResult} (result : s.acf.held = some held) :
    (commitFrame s).ctb.live.get .filtered =
      if held.result.action = .discard then min 65535 (s.ctb.live.get .filtered + 1)
      else s.ctb.live.get .filtered := by
  rw [commitFrame_ctb_of_queue, get_commitQueue_of_ne (by decide), beforeQueue,
    get_commitFilter_filtered (held := held) (by simpa using result),
    get_commitSource_of_ne (by decide) (by decide) (by decide) (by decide), get_count_of_ne (by decide)]

theorem get_commitFrame_qfullDrops (claim : s.rxq.claim = .queueFull) :
    (commitFrame s).ctb.live.get .qfullDrops = min 65535 (s.ctb.live.get .qfullDrops + 1) := by
  rw [commitFrame_ctb_of_queue, get_commitQueue_qfullDrops (by rw [beforeQueue_rxq, claim]), beforeQueue,
    get_commitFilter_of_ne (by decide), get_commitSource_of_ne (by decide) (by decide) (by decide) (by decide),
    get_count_of_ne (by decide)]

/-- The part as the source tracker reports the relation at a commit. -/
def atReport (s : State) : State :=
  (count .framesGood s).withSrt ((count .framesGood s).srt.commit (s.rsp.inputs.bind fixVerdict)
    (count .framesGood s).tkg.tickCount)

theorem get_commitFrame_reported {r : InHand} (inHand : s.srt.inHand = some r) (filtered : k ≠ .filtered)
    (qfull : k ≠ .qfullDrops) :
    (commitFrame s).ctb.live.get k = (reportRelation r.relation (atReport s)).ctb.live.get k := by
  rw [get_commitFrame_of_source filtered qfull, commitSource_of_inHand (by simpa using inHand)]
  rfl

theorem get_atReport (ne : k ≠ .framesGood) : (atReport s).ctb.live.get k = s.ctb.live.get k := by
  rw [atReport, State.withSrt_ctb, get_count_of_ne ne]

theorem get_reportRelation_gap {n : Nat} :
    (reportRelation (.gap n) s).ctb.live.get .gapFrames = min 65535 (s.ctb.live.get .gapFrames + n) := get_countBy

theorem get_reportRelation_resync :
    (reportRelation .resync s).ctb.live.get .resyncs = min 65535 (s.ctb.live.get .resyncs + 1) := get_count

/-- A flag pending after the source tracker's part is pending after the commit. -/
theorem isIn_commitFrame_of_source {f : Flag}
    (pending : f.isIn (commitSource (s.rsp.inputs.bind fixVerdict) (count .framesGood s)).nwc.flags = true) :
    f.isIn (commitFrame s).nwc.flags = true := by
  have filter := commitFilter_raised (commitSource (s.rsp.inputs.bind fixVerdict) (count .framesGood s))
  cases claim : s.rxq.claim with
  | reserved h c => exact filter.stays_recordCommit (commitFrame_recorded claim) pending
  | nothing | queueFull =>
    have queue : (beforeQueue s).nwc.Raised (commitQueue s.lrv.buffer.payload (beforeQueue s)).nwc :=
      commitQueue_raised (by simp [beforeQueue_rxq, claim])
    exact (filter.trans (queue.trans (commitFrame_raised_of_queue s))).stays f pending

theorem isIn_commitFrame_reported {f : Flag} {r : InHand} (inHand : s.srt.inHand = some r)
    (pending : f.isIn (reportRelation r.relation (atReport s)).nwc.flags = true) :
    f.isIn (commitFrame s).nwc.flags = true := by
  refine isIn_commitFrame_of_source ?_
  rw [commitSource_of_inHand (by simpa using inHand)]
  exact pending

end Counts

/-! #### The source table (R41, R46 to R50) -/

/-- The unpinned entry nearest the end leaves. -/
theorem evictOne_eq {before after : List SourceEntry} {v : SourceEntry} (unpinned : v.pinned = false)
    (pinned : ∀ e ∈ after, e.pinned = true) : evictOne (before ++ v :: after) = before ++ after := by
  have none_after : ∀ e ∈ after.reverse, ¬(!e.pinned) = true := fun e mem => by
    simp [pinned e (List.mem_reverse.mp mem)]
  have reversed : (before ++ v :: after).reverse = after.reverse ++ v :: before.reverse := by simp
  rw [evictOne, reversed, List.eraseP_append_right _ none_after, List.eraseP_cons_of_pos (by simp [unpinned])]
  simp

section Table
variable {t : List SourceEntry} {e new : SourceEntry}

theorem addEntry_of_room (room : t.length < 24) : addEntry new t = new :: t := if_pos room

theorem addEntry_of_full {before after : List SourceEntry} {v : SourceEntry} (full : 24 ≤ t.length)
    (split : t = before ++ v :: after) (unpinned : v.pinned = false) (pinned : ∀ e ∈ after, e.pinned = true) :
    addEntry new t = new :: (before ++ after) := by
  have evicts : t.any (!·.pinned) = true := List.any_eq_true.mpr ⟨v, by simp [split], by simp [unpinned]⟩
  have no_room : ¬t.length < Config.sourceEntries := Nat.not_lt.mpr full
  rw [addEntry, if_neg no_room, if_pos evicts, split, evictOne_eq unpinned pinned]

variable {r : InHand} {fixed : Option Verdict} {stamp : Stamp}

theorem Srt.commit_of_inHand {q : Srt} (inHand : q.inHand = some r) :
    q.commit fixed stamp = { q with table := commitTable r fixed stamp q.table, inHand := none } := by
  simp only [Srt.commit, inHand]

theorem commitTable_of_untracked (untracked : r.relation = .untracked) : commitTable r fixed stamp t = t :=
  if_pos untracked

theorem commitTable_of_found (tracked : r.relation ≠ .untracked) (found : sourceEntry t r.source = some e) :
    commitTable r fixed stamp t = e.committed r fixed stamp :: t.eraseP (·.addr == r.source) := by
  rw [commitTable, if_neg tracked, found]

theorem commitTable_of_absent (tracked : r.relation ≠ .untracked) (absent : sourceEntry t r.source = none) :
    commitTable r fixed stamp t = addEntry (firstEntry r fixed stamp) t := by
  rw [commitTable, if_neg tracked, absent]

end Table

/-- Settles O20: the table as `commitTable` leaves it, the command that waits, and what the relation counts. -/
theorem commitUpdatesTheSource : Obligations.CommitUpdatesTheSource := by
  intro s b level r commits inHand fixed stamp left
  have left_eq : left = { s.srt with table := commitTable r fixed stamp s.srt.table, inHand := none } :=
    Srt.commit_of_inHand inHand
  have reported : (lastCheck b level s).srt.inHand = some r := by rw [lastCheck_srt, inHand]
  refine ⟨by rw [left_eq], by rw [left_eq], fun untracked => ?untracked, fun e found tracked => ?found,
    fun absent first => ⟨fun room => ?room, fun full before v after split unpinned pinned => ?full⟩,
    committed b level s, exec_commits commits, Prod.ext committed_srt committed_cmu, fun waits => ?waits,
    fun n gap => ?gap, fun resync => ?resync, fun duplicate => ?duplicate, fun untracked => ?counted⟩
  case untracked => rw [left_eq, commitTable_of_untracked untracked]
  case found =>
    rw [left_eq, commitTable_of_found tracked found]
    cases relation : r.relation <;>
      simp [SourceEntry.committed, verdictAfter, gapTotalAfter, dupTotalAfter, satAdd, Config.totalTop, relation]
  case room =>
    rw [left_eq, commitTable_of_absent (by simp [first]) absent, addEntry_of_room room]
    simp [firstEntry, verdictAfter, first]
  case full =>
    rw [left_eq, commitTable_of_absent (by simp [first]) absent, addEntry_of_full full split unpinned pinned]
    simp [firstEntry, verdictAfter, first]
  case waits =>
    rw [committed_nwc, commitFrame_nwc, sourceWaits_congr lastCheck_cmu, waits]
    simp [Nwc.doneIf]
  case gap =>
    rw [committed_ctb, committed_nwc, get_commitFrame_reported reported (by decide) (by decide)]
    refine ⟨?_, isIn_commitFrame_reported reported ?_⟩
    · rw [gap, get_reportRelation_gap, get_atReport (by decide), lastCheck_ctb]
    · simp [gap, reportRelation]
  case resync =>
    rw [committed_ctb, committed_nwc, get_commitFrame_reported reported (by decide) (by decide)]
    refine ⟨?_, isIn_commitFrame_reported reported ?_⟩
    · rw [resync, get_reportRelation_resync, get_atReport (by decide), lastCheck_ctb]
    · simp [resync, reportRelation]
  case duplicate =>
    rw [committed_ctb, get_commitFrame_reported reported (by decide) (by decide), duplicate, reportRelation, get_count,
      get_atReport (by decide), lastCheck_ctb]
  case counted =>
    rw [committed_ctb, get_commitFrame_reported reported (by decide) (by decide), untracked, reportRelation, get_count,
      get_atReport (by decide), lastCheck_ctb]

end Sys2Proof.Machine
end

section
/-! ### What a commit leaves in the filter, the queue, the store and the responder (R72, R94, R95, R116, R137) -/

namespace Sys2Proof.Machine

/-! #### The acceptance filter (R72, R73) -/

section Filter
variable {a : Acf} {held : HeldResult}

theorem addHit_of_entry {n : Nat} {e : AcfEntry} {table : List AcfEntry} (entry : table[n]? = some e) :
    addHit n table = table.set n { e with hits := min 65535 (e.hits + 1) } := by
  simp only [addHit, entry]
  rfl

theorem Acf.commit_eq (result : a.held = some held) :
    a.commit = { a with table := a.commit.table, held := none } := by
  simp only [Acf.commit, result]

theorem Acf.commit_of_hit {n : Nat} {e : AcfEntry} (result : a.held = some held)
    (matched : held.result.matched = .entry n) (fresh : held.rewritten = false) (entry : a.table[n]? = some e) :
    a.commit.table = a.table.set n { e with hits := min 65535 (e.hits + 1) } := by
  rw [← addHit_of_entry entry]
  simp only [Acf.commit, result, matched, fresh]

theorem Acf.commit_of_no_hit (result : a.held = some held)
    (no_hit : held.rewritten = true ∨ ∀ n, held.result.matched ≠ .entry n) : a.commit.table = a.table := by
  simp only [Acf.commit, result]
  split
  · next n matched fresh =>
    obtain rewritten | other := no_hit
    · cases rewritten.symm.trans fresh
    · exact absurd matched (other n)
  · rfl

end Filter

/-- Settles O28: the hit, the count of a DISCARD, and the copy dropped. -/
theorem commitCountsTheHit : Obligations.CommitCountsTheHit := by
  intro s b level held commits result
  refine ⟨_, exec_commits commits, ?_, fun n e matched entry fresh => ?_, fun no_hit => ?_, ?_⟩
  · rw [committed_acf]
    exact Acf.commit_eq result
  · rw [committed_acf]
    exact Acf.commit_of_hit result matched fresh entry
  · rw [committed_acf]
    exact Acf.commit_of_no_hit result no_hit
  · rw [committed_ctb, get_commitFrame_filtered (by rw [lastCheck_acf, result]), lastCheck_ctb]

/-! #### The receive queue (R94, R95, R157, R158) -/

section Queue
variable {n n' : Nwc} {q : Rxq} {urgent : Bool}

theorem Nwc.recordCommit_of_pending (pending : Flag.rx.isIn n.flags = true) : n.recordCommit urgent = n := if_pos pending

theorem Nwc.recordCommit_of_reached (unset : Flag.rx.isIn n.flags = false)
    (reached : urgent = true ∨ n.rxThreshold ≤ n.u + 1) :
    n.recordCommit urgent = { n with u := n.u + 1, holdOff := none }.raise .rx := by
  rw [Nwc.recordCommit, if_neg (by simp [unset])]
  exact if_pos reached

theorem Nwc.recordCommit_of_below (unset : Flag.rx.isIn n.flags = false) (not_urgent : urgent = false)
    (below : n.u + 1 < n.rxThreshold) :
    n.recordCommit urgent = { n with
      u := n.u + 1
      holdOff := if n.u = 0 ∧ n.rxHoldoff ≠ 0 then some n.rxHoldoff else n.holdOff } := by
  have not_reached : ¬(urgent = true ∨ n.rxThreshold ≤ n.u + 1) := by simp [not_urgent, below]
  rw [Nwc.recordCommit, if_neg (by simp [unset])]
  dsimp only
  rw [if_neg not_reached]
  by_cases loads : n.u = 0 ∧ n.rxHoldoff ≠ 0
  · simp [loads, Nwc.loadedHoldOff]
  · have same : ¬(n.u + 1 = 1 ∧ n.rxHoldoff ≠ 0) := by simpa using loads
    rw [if_neg same, if_neg loads]

theorem Nwc.Raised.u (raised : n.Raised n') : n'.u = n.u := by rw [raised.keeps]
theorem Nwc.Raised.holdOff (raised : n.Raised n') : n'.holdOff = n.holdOff := by rw [raised.keeps]
theorem Nwc.Raised.rxThreshold (raised : n.Raised n') : n'.rxThreshold = n.rxThreshold := by rw [raised.keeps]
theorem Nwc.Raised.rxHoldoff (raised : n.Raised n') : n'.rxHoldoff = n.rxHoldoff := by rw [raised.keeps]

/-- What a record commit leaves of the mitigation (R157). -/
structure Nwc.Recorded (urgent : Bool) (n n' : Nwc) : Prop where
  u : n'.u = if Flag.rx.isIn n.flags then n.u else n.u + 1
  rx : Flag.rx.isIn n.flags = true ∨ urgent = true ∨ n.rxThreshold ≤ n.u + 1 ↔ Flag.rx.isIn n'.flags = true
  still_pending : Flag.rx.isIn n.flags = true → n'.holdOff = n.holdOff
  stopped : Flag.rx.isIn n.flags = false → Flag.rx.isIn n'.flags = true → n'.holdOff = none
  loaded : Flag.rx.isIn n'.flags = false →
    n'.holdOff = if n.u = 0 ∧ n.rxHoldoff ≠ 0 then some n.rxHoldoff else n.holdOff

theorem Nwc.recorded_recordCommit (urgent : Bool) (n : Nwc) : n.Recorded urgent (n.recordCommit urgent) := by
  cases pending : Flag.rx.isIn n.flags with
  | true =>
    rw [Nwc.recordCommit_of_pending pending]
    exact ⟨by simp [pending], by simp [pending], fun _ => rfl, by simp [pending], by simp [pending]⟩
  | false =>
    by_cases reached : urgent = true ∨ n.rxThreshold ≤ n.u + 1
    · rw [Nwc.recordCommit_of_reached pending reached]
      exact ⟨by rw [Nwc.raise_frame]; simp [pending], by simp [reached], by simp [pending], fun _ _ => rfl, by simp⟩
    · obtain ⟨not_urgent, below⟩ := not_or.mp reached
      rw [Nwc.recordCommit_of_below pending (by simpa using not_urgent) (Nat.lt_of_not_le below)]
      exact ⟨by simp [pending], by simp [pending, reached], by simp [pending], by simp [pending], fun _ => rfl⟩

/-- Sets of other flags before and after it do not matter. -/
theorem Nwc.Recorded.of_raised {a a' : Nwc} (before : n.Raised a) (recorded : a.Recorded urgent a')
    (after : a'.Raised n') : n.Recorded urgent n' := by
  obtain ⟨u, rx, still_pending, stopped, loaded⟩ := recorded
  rw [before.rx, before.u] at u
  rw [before.rx, before.rxThreshold, before.u] at rx
  rw [before.rx, before.holdOff] at still_pending
  rw [before.rx] at stopped
  rw [before.u, before.rxHoldoff, before.holdOff] at loaded
  exact ⟨by rw [after.u, u], by rw [after.rx, rx], by rwa [after.holdOff], by rwa [after.rx, after.holdOff],
    by rwa [after.rx, after.holdOff]⟩

theorem Rxq.commit_of_reserved {h : Header} {r : Classified} {stamp : Stamp} {payload : List Byte}
    (claim : q.claim = .reserved h r) : q.commit stamp payload = q.push (recordOf h r stamp payload) := by
  simp only [Rxq.commit, claim]

theorem Rxq.push_eq (r : Record) (q : Rxq) : q.push r = { q with
    records := q.records ++ [r], claim := .nothing, readPos := if q.records = [] then 0 else q.readPos } := by
  simp [Rxq.push]

end Queue

theorem commitMakesTheRecord : Claim.CommitMakesTheRecord := by
  intro s b level h r commits claim _
  have recorded : s.nwc.Recorded r.urgent (committed b level s).nwc := by
    have before := beforeQueue_raised (lastCheck b level s)
    rw [lastCheck_nwc] at before
    rw [committed_nwc]
    exact .of_raised before (Nwc.recorded_recordCommit _ _)
      (commitFrame_recorded (h := h) (by rw [lastCheck_rxq, claim]))
  refine ⟨_, exec_commits commits, ?_, ?_, recorded.u, recorded.rx, recorded.still_pending, recorded.stopped,
    recorded.loaded⟩
  · rw [committed_rxq, Rxq.commit_of_reserved claim, Rxq.push_eq]
    rfl
  · rw [committed_rxq, Rxq.used_commit]

theorem commitDropsWhenQueueFull : Claim.CommitDropsWhenQueueFull := by
  intro s b level commits claim
  have full : (lastCheck b level s).rxq.claim = .queueFull := by rw [lastCheck_rxq, claim]
  refine ⟨_, exec_commits commits, ?_, ?_, ?_⟩
  · rw [committed_rxq]
    simp only [Rxq.commit, claim]
  · rw [committed_ctb, get_commitFrame_qfullDrops full, lastCheck_ctb]
  · rw [committed_nwc]
    refine (commitFrame_raised_of_queue _).stays _ ?_
    simp [commitQueue, beforeQueue_rxq, full]

/-- Settles O30: the record with the mitigation's count, and the counted drop. -/
theorem commitFillsTheQueue : Obligations.CommitFillsTheQueue := ⟨commitMakesTheRecord, commitDropsWhenQueueFull⟩

/-! #### The latest-value store (R116, R117, R125) -/

section Store
variable {s : State} {f : Flag} {k : Counter}

theorem isIn_doneIf {n : Nwc} (waited : Bool) (ne : f ≠ .cmdDone) : f.isIn (n.doneIf waited).flags = f.isIn n.flags := by
  cases waited <;> simp [Nwc.doneIf, ne]

theorem isIn_reportRelation (r : Relation) (gap : f ≠ .gap) (sat : f ≠ .countSat) :
    f.isIn (reportRelation r s).nwc.flags = f.isIn s.nwc.flags := by
  cases r with
  | gap n => simp [reportRelation, gap, isIn_countBy_nwc _ _ _ sat]
  | resync => simp [reportRelation, gap, isIn_count_nwc _ _ sat]
  | duplicate => exact isIn_count_nwc .duplicates s sat
  | untracked => exact isIn_count_nwc .untracked s sat
  | first | next | retry => rfl

theorem isIn_commitSource (v : Option Verdict) (gap : f ≠ .gap) (sat : f ≠ .countSat) :
    f.isIn (commitSource v s).nwc.flags = f.isIn s.nwc.flags := by
  cases inHand : s.srt.inHand with
  | none => simp only [commitSource, inHand]
  | some r => rw [commitSource_of_inHand inHand, isIn_reportRelation _ gap sat, State.withSrt_nwc]

theorem isIn_commitFilter (sat : f ≠ .countSat) : f.isIn (commitFilter s).nwc.flags = f.isIn s.nwc.flags := by
  cases held : s.acf.held with
  | none => simp only [commitFilter, held]
  | some r =>
    simp only [commitFilter, held]
    split
    · exact isIn_count_nwc .filtered (s.withAcf s.acf.commit) sat
    · rfl

theorem isIn_recordCommit {n : Nwc} (urgent : Bool) (rx : f ≠ .rx) :
    f.isIn (n.recordCommit urgent).flags = f.isIn n.flags := by
  cases pending : Flag.rx.isIn n.flags with
  | true => rw [Nwc.recordCommit_of_pending pending]
  | false =>
    by_cases reached : urgent = true ∨ n.rxThreshold ≤ n.u + 1
    · rw [Nwc.recordCommit_of_reached pending reached]
      simp [rx]
    · obtain ⟨not_urgent, below⟩ := not_or.mp reached
      rw [Nwc.recordCommit_of_below pending (by simpa using not_urgent) (Nat.lt_of_not_le below)]

theorem isIn_commitQueue (p : List Byte) (rx : f ≠ .rx) (qfull : f ≠ .qfull) (sat : f ≠ .countSat) :
    f.isIn (commitQueue p s).nwc.flags = f.isIn s.nwc.flags := by
  cases claim : s.rxq.claim with
  | nothing => simp only [commitQueue, claim]
  | reserved h r => rw [commitQueue_nwc_of_reserved claim, isIn_recordCommit _ rx]
  | queueFull =>
    simp [commitQueue, claim, qfull, isIn_count_nwc .qfullDrops (s.withRxq { s.rxq with claim := .nothing }) sat]

/-- SLOT is set at a commit where the update makes a slot enter FRESH, and by nothing else (R117). -/
theorem isIn_commitFrame_slot {n : Nat} (held : s.lvs.held = some n) :
    Flag.slot.isIn (commitFrame s).nwc.flags = (Flag.slot.isIn s.nwc.flags || s.lvs.updateFreshens n) := by
  have queue : Flag.slot.isIn (commitQueue s.lrv.buffer.payload (beforeQueue s)).nwc.flags =
      Flag.slot.isIn s.nwc.flags := by
    rw [isIn_commitQueue _ (by decide) (by decide) (by decide), beforeQueue, isIn_commitFilter (by decide),
      isIn_commitSource _ (by decide) (by decide), isIn_count_nwc _ _ (by decide)]
  have store : (commitQueue s.lrv.buffer.payload (beforeQueue s)).lvs = s.lvs := by simp [beforeQueue]
  have blocks : commitBlocks s = commitResponse (commitSlot (headerOf s.lrv.buffer.hdr) s.lrv.buffer.payload
      (commitQueue s.lrv.buffer.payload (beforeQueue s))) := rfl
  rw [commitFrame_nwc, isIn_doneIf _ (by decide), blocks, commitResponse_nwc]
  simp only [commitSlot, store, held]
  cases freshens : s.lvs.updateFreshens n with
  | true => simp
  | false => simp [queue]

variable {l : Lvs} {n : Nat} {sl : Slot} {u : SlotContent}

theorem Lvs.commit_of_held (held : l.held = some n) : l.commit u = { l.update n u with held := none } := by
  simp only [Lvs.commit, held]

theorem Lvs.update_of_deferred (slot : l.slots[n]? = some sl) (deferred : l.snap = some ⟨n, false⟩) :
    l.update n u = { l with
      slots := l.slots.set n { sl with deferred := some u, unread := min 255 (sl.unread + 1) } } := by
  rw [Lvs.update, if_pos (defers_iff.mpr deferred), Lvs.slotAt_of_getElem? slot]
  rfl

theorem Lvs.update_of_applied (slot : l.slots[n]? = some sl) (applied : l.snap ≠ some ⟨n, false⟩) :
    l.update n u = { l with
      slots := l.slots.set n
        { sl with state := .fresh, content := u, age := 0, unread := min 255 (sl.unread + 1) } } := by
  rw [Lvs.update, if_neg fun defers => applied (defers_iff.mp defers), Lvs.slotAt_of_getElem? slot]
  rfl

end Store

/-- Settles O33: the update applied or held back, and SLOT. -/
theorem commitUpdatesTheSlot : Obligations.CommitUpdatesTheSlot := by
  intro s b level n sl commits held slot h u
  have store : (committed b level s).lvs = { s.lvs.update n u with held := none } := by
    rw [committed_lvs, Lvs.commit_of_held held]
    rfl
  have flag : Flag.slot.isIn (committed b level s).nwc.flags =
      (Flag.slot.isIn s.nwc.flags || (!s.lvs.defers n && decide (sl.state ≠ .fresh))) := by
    rw [committed_nwc, isIn_commitFrame_slot (by rw [lastCheck_lvs, held]), lastCheck_nwc, lastCheck_lvs,
      Lvs.updateFreshens, Lvs.slotAt_of_getElem? slot]
  refine ⟨_, exec_commits commits, fun applied => ⟨?_, fun not_fresh => ?_⟩, fun deferred => ?_, fun stands => ?_⟩
  · rw [store, Lvs.update_of_applied slot applied]
  · have no_defer : s.lvs.defers n = false := by simpa [Lvs.defers] using applied
    simp [flag, no_defer, not_fresh]
  · rw [store, Lvs.update_of_deferred slot deferred]
  · rw [flag]
    obtain deferred | fresh := stands
    · simp [Lvs.defers, deferred]
    · simp [fresh]

/-! #### The responder (R135, R137, R140) -/

theorem verdictOfASend : Claim.VerdictOfASend := by
  intro i
  refine ⟨fun duplicate => ?_, fun judged => ?_⟩
  · simp [fixVerdict, duplicate]
  · have class_of : i.cls = .untracked ∨ i.cls = .tracked := by
      cases cls : i.cls with
      | duplicate => exact absurd cls judged
      | untracked => exact .inl rfl
      | tracked => exact .inr rfl
    refine ⟨fun action => ?_, fun action => ?_, fun action => ⟨fun mark => ?_, fun mark => ?_⟩⟩
    · obtain cls | cls := class_of <;> simp [fixVerdict, cls, action]
    · obtain cls | cls := class_of <;> simp [fixVerdict, cls, action]
    · obtain cls | cls := class_of <;> obtain action | action := action <;> simp [fixVerdict, cls, action, mark]
    · obtain cls | cls := class_of <;> obtain action | action := action <;> simp [fixVerdict, cls, action, mark]

theorem response_code_append (seq : Seq) : Kind.response.code ++ seq = (0x80 : Byte) ||| seq.setWidth 8 := by
  revert seq
  decide

theorem responseFrame_eq (own source : Byte) (seq : Seq) (v : Verdict) :
    let header : List Byte := [source, own, 0x80 ||| seq.setWidth 8, 0x00, v.code, 0x00]
    responseFrame own source seq v = [0x55, 0x55, 0xC5] ++ header ++
      [(crcOf header).extractLsb' 8 8, (crcOf header).extractLsb' 0 8] := by
  rw [← response_code_append]
  rfl

section Responder
variable {r : Rsp} {own : Byte}

theorem Rsp.commit_of_verdict {i : VerdictInputs} {v : Verdict} (inputs : r.inputs = some i)
    (fixed : fixVerdict i = some v) : r.commit own = ⟨.waiting (responseFrame own i.source i.seq v), none⟩ := by
  simp only [Rsp.commit, inputs, fixed]

theorem Rsp.commit_of_none (inputs : r.inputs = none) : r.commit own = r := by
  simp only [Rsp.commit, inputs]

/-- A commit does not start the sending. -/
theorem Rsp.commit_state (idle : r.state = .idle) :
    (r.commit own).state = .idle ∨ ∃ chars, (r.commit own).state = .waiting chars := by
  unfold Rsp.commit
  split
  · exact .inl idle
  · split
    · exact .inl idle
    · exact .inr ⟨_, rfl⟩

theorem ltx_of_not_sending {s : State} (no : s.rsp.state = .idle ∨ ∃ chars, s.rsp.state = .waiting chars) (bit : Nat) :
    s.ltx bit = true := by
  obtain idle | ⟨chars, waiting⟩ := no
  · simp only [State.ltx, idle]
  · simp only [State.ltx, waiting]

end Responder

theorem commitAnswersTheSend : Claim.CommitAnswersTheSend := by
  intro s b level commits
  have idle : s.rsp.state = .idle := commits.1.1.2.2
  have clc : (committed b level s).clc =
      { s.clc with idleCount := (commitFrame (lastCheck b level s)).syncedIdle } := by
    simp [committed, lastCheck_clc]
  have rsp : (commitFrame (lastCheck b level s)).rsp = s.rsp.commit s.cfg.ownAddress := by
    rw [commitFrame_rsp, lastCheck_rsp, lastCheck_cfg]
  refine ⟨_, exec_commits commits, ltx_of_not_sending ?ltx, by simp [committed], by simp [committed], ?good,
    fun i v inputs fixed => ⟨?answer, ?no_hold⟩, fun inputs => ⟨?none, fun line none_runs => ?hold⟩,
    fun waits => ?cmu,
    ?frame⟩
  case ltx =>
    rw [committed_rsp]
    exact Rsp.commit_state idle
  case good => rw [committed_ctb, get_commitFrame_framesGood, lastCheck_ctb]
  case answer =>
    rw [committed_rsp, Rsp.commit_of_verdict inputs fixed, responseFrame_eq]
  case no_hold =>
    rw [clc, syncedIdle_of_busy]
    rw [rsp, Rsp.commit_of_verdict inputs fixed]
    nofun
  case none => rw [committed_rsp, Rsp.commit_of_none inputs]
  case hold =>
    have loads := syncedIdle_of_loads (s := commitFrame (lastCheck b level s)) (by simpa [lastCheck_clc] using line)
      (by simp) (by rw [rsp, Rsp.commit_of_none inputs, idle]) (by simpa [lastCheck_clc] using none_runs)
    rw [clc, loads]
    simp [lastCheck_cfg]
  case cmu => rw [committed_cmu, sourceRun_of_not_waits waits]
  case frame =>
    apply State.ext_blocks <;> simp [committed, lastCheck]

/-- Settles O36: the verdict, and the response that waits with it. -/
theorem sendIsJudgedAndAnswered : Obligations.SendIsJudgedAndAnswered := ⟨verdictOfASend, commitAnswersTheSend⟩

end Sys2Proof.Machine
end

section
/-! ### Source and entry commands (R52 to R57, R77 to R82) -/

namespace Sys2Proof.Machine

section Sources
variable {s : State} {c : Instr} {cmd : Cmd} {code : Byte} {r : CmdResult} {q : Srt}

/-- A source command that finds no relation in hand leaves what its effect says (R52, R174). -/
theorem exec_source_runs {table : List SourceEntry} {window : Option SourceWindow} (row : hostCmd c = some cmd)
    (coded : cmd.code = code) (source : cmd.isSource = true) (takes : s.Takes) (free : s.srt.inHand = none)
    (handed : cmd.owner (s.cmu.capture cmd) (s.busyWith cmd) = sourceTurn (s.busyWith cmd))
    (effect : sourceEffect cmd s.cmu.arg s.tkg.tickCount s.srt = (⟨table, none, window⟩, r)) :
    exec c s = .next ((({ s with srt := ⟨table, none, window⟩ } : State).completed code r).wrote 0x07) := by
  rw [exec_of_takes row takes, handed, sourceTurn_busyWith source free, effect, coded]
  rfl

theorem ownNamedSource_of_node (node : isNode s.cmu.arg = true) (cmd : Cmd) :
    ownNamedSource (s.cmu.capture cmd) (s.busyWith cmd) = sourceTurn (s.busyWith cmd) := if_pos node

theorem ownNamedSource_of_not_node (not_node : isNode s.cmu.arg = false) (cmd : Cmd) :
    ownNamedSource (s.cmu.capture cmd) (s.busyWith cmd) = complete .arg (s.busyWith cmd) :=
  if_neg (by rw [Cmu.capture, not_node]; exact Bool.false_ne_true)

/-- A source command taken with a relation in hand waits (R52). -/
theorem exec_source_waits (row : hostCmd c = some cmd) (takes : s.Takes) (inHand : s.srt.inHand ≠ none)
    (handed : cmd.owner (s.cmu.capture cmd) (s.busyWith cmd) = sourceTurn (s.busyWith cmd)) :
    exec c s = .next ((s.busyWith cmd).wrote 0x07) :=
  exec_waits row takes (handed.trans (sourceTurn_busyWith_of_inHand inHand))

/-! #### The five effects -/

theorem Srt.of_free (free : q.inHand = none) (table : List SourceEntry) :
    { q with table := table } = ⟨table, none, q.window⟩ := by rw [← free]

theorem Srt.same_of_free (free : q.inHand = none) : q = ⟨q.table, none, q.window⟩ := Srt.of_free free q.table

theorem setPin_eq (addr : Byte) (v : Bool) (t : List SourceEntry) :
    setPin addr v t = t.map fun e => if e.addr = addr then { e with pinned := v } else e := by
  simp [setPin]

variable {a : Byte} {stamp : Stamp} {e : SourceEntry}

theorem pinEffect_of_found (found : sourceEntry q.table a = some e) :
    pinEffect a stamp q = ({ q with table := setPin a true q.table }, .ok) := by
  simp only [pinEffect, found]

theorem pinEffect_of_room (absent : sourceEntry q.table a = none) (room : roomForSource q.table = true) :
    pinEffect a stamp q = ({ q with table := addEntry (pinnedEntry a stamp) q.table }, .ok) := by
  simp only [pinEffect, absent, room, if_true]

theorem pinEffect_of_full (absent : sourceEntry q.table a = none) (full : roomForSource q.table = false) :
    pinEffect a stamp q = (q, .full) := by
  simp only [pinEffect, absent, full, Bool.false_eq_true, if_false]

theorem unpinEffect_of_found (found : sourceEntry q.table a = some e) :
    unpinEffect a q = ({ q with table := setPin a false q.table }, .ok) := by
  simp only [unpinEffect, found]

theorem unpinEffect_of_absent (absent : sourceEntry q.table a = none) : unpinEffect a q = (q, .notFound) := by
  simp only [unpinEffect, absent]

theorem forgetEffect_of_found (found : sourceEntry q.table a = some e) :
    forgetEffect a q = ({ q with table := q.table.eraseP (·.addr == a) }, .ok) := by
  simp only [forgetEffect, found]

theorem forgetEffect_of_absent (absent : sourceEntry q.table a = none) : forgetEffect a q = (q, .notFound) := by
  simp only [forgetEffect, absent]

theorem readSourceEffect_of_some {pos : Nat} (entry : q.table[pos]? = some e) :
    readSourceEffect pos q = ({ q with window := some ⟨pos, e⟩ }, .ok) := by
  simp only [readSourceEffect, entry]

theorem readSourceEffect_of_none {pos : Nat} (beyond : q.table.length ≤ pos) :
    readSourceEffect pos q = (q, .notFound) := by
  simp only [readSourceEffect, List.getElem?_eq_none beyond]

theorem roomForSource_of_lt {t : List SourceEntry} (room : t.length < 24) : roomForSource t = true := by
  simp [roomForSource, Config.sourceEntries, room]

theorem roomForSource_of_unpinned {t : List SourceEntry} {v : SourceEntry} (mem : v ∈ t) (unpinned : v.pinned = false) :
    roomForSource t = true := by
  have evicts : t.any (!·.pinned) = true := List.any_eq_true.mpr ⟨v, mem, by simp [unpinned]⟩
  simp [roomForSource, evicts]

theorem roomForSource_of_pinned {t : List SourceEntry} (full : 24 ≤ t.length) (pinned : ∀ e ∈ t, e.pinned = true) :
    roomForSource t = false := by
  have no_room : decide (t.length < Config.sourceEntries) = false := decide_eq_false (Nat.not_lt.mpr full)
  simpa [roomForSource, no_room] using pinned

end Sources

/-- The three commands that name a source, by what they do to a table with no relation in hand. -/
theorem exec_namedSource {s : State} {c : Instr} {cmd : Cmd} {code : Byte} {r : CmdResult}
    {table : List SourceEntry} {window : Option SourceWindow} (row : hostCmd c = some cmd) (coded : cmd.code = code)
    (source : cmd.isSource = true) (owner : cmd.owner = ownNamedSource) (takes : s.Takes)
    (free : s.srt.inHand = none) (node : isNode s.cmu.arg = true)
    (effect : sourceEffect cmd s.cmu.arg s.tkg.tickCount s.srt = (⟨table, none, window⟩, r)) :
    exec c s = .next ((({ s with srt := ⟨table, none, window⟩ } : State).completed code r).wrote 0x07) :=
  exec_source_runs row coded source takes free (by rw [owner]; exact ownNamedSource_of_node node cmd) effect

theorem sourceCommandsTakeEffect : Claim.SourceCommandsTakeEffect := by
  intro s takes free a done
  have same := Srt.same_of_free free
  refine ⟨fun node => ⟨fun e found => ⟨?pin, ?unpin, ?forget⟩, fun absent => ⟨fun room => ?pin_new,
    fun full before v after split unpinned pinned => ?pin_evicts, fun full pinned => ?pin_full, ?unpin_absent,
    ?forget_absent⟩⟩, ?forgetUnpinned, fun e entry => ?readSource, fun beyond => ?read_beyond⟩
  case pin =>
    refine exec_namedSource rfl rfl rfl rfl takes free node ?_
    rw [← setPin_eq, ← Srt.of_free free]
    exact pinEffect_of_found found
  case unpin =>
    refine exec_namedSource rfl rfl rfl rfl takes free node ?_
    rw [← setPin_eq, ← Srt.of_free free]
    exact unpinEffect_of_found found
  case forget =>
    refine exec_namedSource rfl rfl rfl rfl takes free node ?_
    rw [← Srt.of_free free]
    exact forgetEffect_of_found found
  case pin_new =>
    refine exec_namedSource rfl rfl rfl rfl takes free node ?_
    rw [← addEntry_of_room room, ← Srt.of_free free]
    exact pinEffect_of_room absent (roomForSource_of_lt room)
  case pin_evicts =>
    refine exec_namedSource rfl rfl rfl rfl takes free node ?_
    rw [← addEntry_of_full full split unpinned pinned, ← Srt.of_free free]
    exact pinEffect_of_room absent (roomForSource_of_unpinned (by simp [split]) unpinned)
  case pin_full =>
    refine exec_namedSource rfl rfl rfl rfl takes free node ?_
    rw [← same]
    exact pinEffect_of_full absent (roomForSource_of_pinned full pinned)
  case unpin_absent =>
    refine exec_namedSource rfl rfl rfl rfl takes free node ?_
    rw [← same]
    exact unpinEffect_of_absent absent
  case forget_absent =>
    refine exec_namedSource rfl rfl rfl rfl takes free node ?_
    rw [← same]
    exact forgetEffect_of_absent absent
  case forgetUnpinned =>
    refine exec_source_runs rfl rfl rfl takes free rfl ?_
    rw [← Srt.of_free free]
    rfl
  case readSource =>
    refine exec_source_runs rfl rfl rfl takes free rfl ?_
    rw [← free]
    exact readSourceEffect_of_some entry
  case read_beyond =>
    refine exec_source_runs rfl rfl rfl takes free rfl ?_
    rw [← same]
    exact readSourceEffect_of_none beyond

theorem sourceCommandsWait : Claim.SourceCommandsWait := by
  intro s takes
  refine ⟨fun not_node => ⟨?_, ?_, ?_⟩, fun inHand => ⟨fun node => ⟨?_, ?_, ?_⟩, ?_, ?_⟩⟩
  · exact exec_completes (s' := s) rfl rfl takes (ownNamedSource_of_not_node not_node .pinSource)
  · exact exec_completes (s' := s) rfl rfl takes (ownNamedSource_of_not_node not_node .unpinSource)
  · exact exec_completes (s' := s) rfl rfl takes (ownNamedSource_of_not_node not_node .forgetSource)
  · exact exec_source_waits rfl takes inHand (ownNamedSource_of_node node .pinSource)
  · exact exec_source_waits rfl takes inHand (ownNamedSource_of_node node .unpinSource)
  · exact exec_source_waits rfl takes inHand (ownNamedSource_of_node node .forgetSource)
  · exact exec_source_waits rfl takes inHand rfl
  · exact exec_source_waits rfl takes inHand rfl

/-- Settles O21: each command by its effect on the table, or kept in flight. -/
theorem sourceCommandsActOrWait : Obligations.SourceCommandsActOrWait := ⟨sourceCommandsTakeEffect, sourceCommandsWait⟩

/-! #### Entry commands (R77 to R82) -/

section Entries
variable {s : State} {c : Instr} {cmd : Cmd} {code : Byte} {r : CmdResult} {a left : Acf} {n : Nat} {e : AcfEntry}

theorem ownEntry_of_entry (within : s.cmu.arg.toNat < 32) (cmd : Cmd) :
    ownEntry (s.cmu.capture cmd) (s.busyWith cmd) = entryTurn (s.busyWith cmd) := if_pos within

theorem ownEntry_of_beyond (beyond : 32 ≤ s.cmu.arg.toNat) (cmd : Cmd) :
    ownEntry (s.cmu.capture cmd) (s.busyWith cmd) = complete .arg (s.busyWith cmd) := if_neg (Nat.not_lt.mpr beyond)

/-- An entry command that finds no classification in flight leaves what its effect says (R77, R174). -/
theorem exec_entry_runs (row : hostCmd c = some cmd) (coded : cmd.code = code) (entry : cmd.isEntry = true)
    (owner : cmd.owner = ownEntry) (takes : s.Takes) (within : s.cmu.arg.toNat < 32) (free : s.acf.job = none)
    (effect : entryEffect cmd s.cmu.arg s.acf = (left, r)) :
    exec c s = .next ((({ s with acf := left } : State).completed code r).wrote 0x07) := by
  rw [exec_of_takes row takes, owner, ownEntry_of_entry within, entryTurn_busyWith entry free, effect, coded]
  rfl

/-- An entry command taken during a classification waits (R77). -/
theorem exec_entry_waits (row : hostCmd c = some cmd) (owner : cmd.owner = ownEntry) (takes : s.Takes)
    (within : s.cmu.arg.toNat < 32) (job : s.acf.job ≠ none) : exec c s = .next ((s.busyWith cmd).wrote 0x07) := by
  refine exec_waits row takes ?_
  rw [owner, ownEntry_of_entry within, entryTurn_busyWith_of_job job]

theorem updates_iff {action : Action} : action.updates = true ↔ action = .latest ∨ action = .both := by
  cases action <;> simp [Action.updates]

/-- The staging checks of COMMIT ENTRY (R80). -/
theorem Staging.legal_iff (g : Staging) : g.legal = true ↔
    ¬(g.topicHigh.toNat < g.topicLow.toNat ∨ 248 ≤ g.source.toNat ∨ g.kinds = 3 ∨
      ((g.action = .latest ∨ g.action = .both) ∧ 16 ≤ g.slot.toNat)) := by
  have source : g.source.toNat ≤ Config.maxNode ↔ ¬248 ≤ g.source.toNat := by
    change g.source.toNat ≤ 247 ↔ _
    omega
  have slot : (!g.action.updates || decide (g.slot.toNat < Config.slotCount)) = true ↔
      ¬((g.action = .latest ∨ g.action = .both) ∧ 16 ≤ g.slot.toNat) := by
    rw [← updates_iff, Bool.or_eq_true, decide_eq_true_iff]
    change _ ∨ g.slot.toNat < 16 ↔ _
    cases g.action.updates <;> simp
  rw [Staging.legal, Bool.and_eq_true, Bool.and_eq_true, Bool.and_eq_true, slot, decide_eq_true_iff,
    decide_eq_true_iff, source, BitVec.le_def]
  simp only [not_or, Nat.not_lt, bne_iff_ne, and_assoc, ne_eq]

theorem Staging.entry_eq (g : Staging) : g.entry =
    { valid := g.valid, topicLow := g.topicLow, topicHigh := g.topicHigh
      source := if g.source = 0 then none else some g.source
      kinds := if g.kinds = 0 then .publish else if g.kinds = 1 then .send else .either
      action := g.action
      slot := if g.action = .latest ∨ g.action = .both then some g.slot.toNat else none
      urgent := g.urgent, hits := 0 } := by
  simp only [Staging.entry, KindSel.ofCode, updates_iff]

theorem Acf.noteRewritten_eq (n : Nat) (a : Acf) : a.noteRewritten n = { a with
    held := a.held.map fun r => { r with rewritten := r.rewritten || decide (r.result.matched = .entry n) } } := by
  cases held : a.held with
  | none =>
    simp only [Acf.noteRewritten, held]
    rw [Option.map_none, ← held]
  | some r =>
    by_cases matched : r.result.matched = .entry n
    · simp [Acf.noteRewritten, held, matched]
    · simp only [Acf.noteRewritten, held, if_neg matched, Option.map_some, decide_eq_false matched, Bool.or_false]
      rw [← held]

theorem commitEffect_of_legal (legal : a.staging.legal = true) :
    commitEffect n a = ({ a with table := a.table.set n a.staging.entry }.noteRewritten n, .ok) := if_pos legal

theorem commitEffect_of_illegal (illegal : ¬a.staging.legal = true) : commitEffect n a = (a, .arg) := if_neg illegal

theorem clearEffect_of_entry (entry : a.table[n]? = some e) : clearEffect n a =
    ({ a with table := a.table.set n { e with valid := false, hits := 0 } }.noteRewritten n, .ok) := by
  simp only [clearEffect, entry]

theorem readEffect_of_entry (entry : a.table[n]? = some e) :
    readEffect n a = ({ a with staging := e.staged }, .ok) := by
  simp only [readEffect, entry]

end Entries

theorem entryCommandsTakeEffect : Claim.EntryCommandsTakeEffect := by
  intro s takes n g
  refine ⟨fun beyond => ⟨?_, ?_, ?_⟩, fun within free => ⟨fun illegal => ?arg, fun legal => ?commit,
    fun e entry => ⟨?clear, ?read⟩⟩⟩
  · exact exec_completes (s' := s) rfl rfl takes (ownEntry_of_beyond beyond .commitEntry)
  · exact exec_completes (s' := s) rfl rfl takes (ownEntry_of_beyond beyond .clearEntry)
  · exact exec_completes (s' := s) rfl rfl takes (ownEntry_of_beyond beyond .readEntry)
  case arg =>
    refine exec_entry_runs (left := s.acf) rfl rfl rfl rfl takes within free (commitEffect_of_illegal ?_)
    exact fun legal => (Staging.legal_iff g).mp legal illegal
  case commit =>
    refine exec_entry_runs rfl rfl rfl rfl takes within free ?_
    rw [← Staging.entry_eq g]
    exact (commitEffect_of_legal ((Staging.legal_iff g).mpr legal)).trans (by rw [Acf.noteRewritten_eq])
  case clear =>
    refine exec_entry_runs rfl rfl rfl rfl takes within free ?_
    exact (clearEffect_of_entry entry).trans (by rw [Acf.noteRewritten_eq])
  case read =>
    refine exec_entry_runs rfl rfl rfl rfl takes within free ?_
    exact readEffect_of_entry entry

theorem entryCommandsWaitForTheClassification : Claim.EntryCommandsWaitForTheClassification := by
  refine ⟨fun s takes within job => ⟨?_, ?_, ?_⟩, fun s f j busy entry job => ?waits⟩
  · exact exec_entry_waits rfl rfl takes within job
  · exact exec_entry_waits rfl rfl takes within job
  · exact exec_entry_waits rfl rfl takes within job
  case waits =>
    have waits : s.entryWaits = true := entryWaits_iff.mpr ⟨f, busy, entry⟩
    refine ⟨_, congrArg Host.Outcome.next (if_pos waits), rfl, ?_, ?_, finishClassification_done waits (by simp [job])⟩
    · simp [finishClassification_eq job, State.entryRun, busy, entry]
    · simp [finishClassification_eq job, State.entryRun, busy, entry, Cmu.ended]

/-- Settles O27: each command by its effect on the filter, or kept in flight until the classification completes. -/
theorem entryCommandsActOrWait : Obligations.EntryCommandsActOrWait :=
  ⟨entryCommandsTakeEffect, entryCommandsWaitForTheClassification⟩

end Sys2Proof.Machine
end

section
/-! ### Classification completion, copy completion and clear completion (R66, R68, R91, R92, R124, R180) -/

namespace Sys2Proof.Machine

/-! #### The claim of a frame (R91, R92, R107) -/

section Claims
variable {q : Rxq} {h : Header} {r : Classified} {n : Nwc}

theorem Rxq.fits_iff : q.fits h = true ↔ recordSize h.length ≤ q.free := decide_eq_true_iff

theorem Rxq.not_fits (small : q.free < recordSize h.length) : q.fits h = false :=
  decide_eq_false (Nat.not_le.mpr small)

theorem belowLevel_iff {watermark used : Nat} :
    belowLevel watermark used = true ↔ watermark = 0 ∨ used < 64 * watermark := decide_eq_true_iff

theorem Rxq.classified_of_no_queue (no_queue : r.action.queues = false) :
    q.classified h r = q ∧ n.classified h r q = n := by
  simp [Rxq.classified, Nwc.classified, no_queue]

theorem Rxq.classified_of_full (queues : r.action.queues = true) (small : q.free < recordSize h.length) :
    q.classified h r = { q with claim := .queueFull } ∧ n.classified h r q = n := by
  simp [Rxq.classified, Nwc.classified, Rxq.claimed, Rxq.claimRises, Rxq.claimFor, queues, Rxq.not_fits small]

theorem Rxq.claimFor_of_fits (fits : recordSize h.length ≤ q.free) :
    q.claimFor h r = { q with claim := .reserved h r } := by
  simp [Rxq.claimFor, Rxq.fits_iff.mpr fits]

theorem Rxq.used_reserved (free : q.claim = .nothing) :
    { q with claim := .reserved h r }.used = q.used + recordSize h.length := by
  simp [Rxq.used, free, Claim.size]

theorem Rxq.classified_of_fits (queues : r.action.queues = true) (fits : recordSize h.length ≤ q.free)
    (free : q.claim = .nothing) :
    let rises := q.arm && !belowLevel q.watermark (q.used + recordSize h.length)
    q.classified h r = { q with claim := .reserved h r, arm := q.arm && !rises } ∧
      n.classified h r q = if rises then n.raise .watermark else n := by
  have fit : q.fits h = true := Rxq.fits_iff.mpr fits
  have level : (q.claimFor h r).used = q.used + recordSize h.length := by
    rw [Rxq.claimFor_of_fits fits, Rxq.used_reserved free]
  simp only [Rxq.classified, Nwc.classified, Rxq.claimed, Rxq.claimRises, queues, level, fit, Bool.true_and, if_true]
  rw [Rxq.claimFor_of_fits fits]
  cases q.arm <;> simp

/-- Of the queue, a claim changes the claim and the arm. -/
theorem Rxq.classified_frame (h : Header) (r : Classified) (q : Rxq) :
    q.classified h r = { q with claim := (q.classified h r).claim, arm := (q.classified h r).arm } := by
  unfold Rxq.classified
  split <;> rfl

/-! #### The mark for the responder (R92) -/

theorem queueMark_of_no_queue (no_queue : r.action.queues = false) : queueMark r q = none := by
  simp [queueMark, no_queue]

theorem queueMark_of_full (queues : r.action.queues = true) (small : q.free < recordSize h.length) :
    queueMark r (q.classified h r) = some .queueFull := by
  obtain ⟨full, -⟩ := Rxq.classified_of_full (n := State.reset.nwc) queues small
  simp [queueMark, queues, full]

theorem queueMark_of_fits (queues : r.action.queues = true) (fits : recordSize h.length ≤ q.free) :
    queueMark r (q.classified h r) = some .reserved := by
  simp [queueMark, queues, Rxq.classified, Rxq.claimed, Rxq.claimFor_of_fits fits]

theorem classify_of_entry {cfg : LockedConfig} {hash : List Byte} {j : ClassJob} {n : Nat} {e : AcfEntry}
    (found : j.found = some (n, e)) :
    classify cfg hash j = ⟨e.action, if e.action.updates then e.slot else none, e.urgent, .entry n, j.relation⟩ := by
  simp only [classify, found]

end Claims

/-- Settles O26: `finishClassification_eq`, with the claim of the queue and the mark case by case. -/
theorem classificationFixesTheResult : Obligations.ClassificationFixesTheResult := by
  intro s j job r size done
  have runs : exec .classificationCompletion s = .next (finishClassification s) := rfl
  rw [finishClassification_eq job] at runs
  refine ⟨_, runs, fun n e found => classify_of_entry found, rfl, rfl, fun no_queue => ?_, fun queues small => ?_,
    fun queues fits free => ?_, rfl, fun i inputs => ⟨_, congrArg (Option.map _) inputs, fun no_queue => ?_,
    fun queues small => ?_, fun queues fits => ?_⟩, fun inputs => congrArg (Option.map _) inputs, ?_⟩
  · obtain ⟨rxq, nwc⟩ := Rxq.classified_of_no_queue (q := s.rxq) (h := j.hdr) (n := s.nwc) no_queue
    exact ⟨rxq, congrArg done nwc⟩
  · obtain ⟨rxq, nwc⟩ := Rxq.classified_of_full (n := s.nwc) queues small
    exact ⟨rxq, congrArg done nwc⟩
  · obtain ⟨rxq, nwc⟩ := Rxq.classified_of_fits (n := s.nwc) queues fits free
    refine ⟨congrArg Rxq.claim rxq, (congrArg Rxq.used rxq).trans (Rxq.used_reserved free), fun arm level reached => ?_,
      fun stands => ?_⟩
    · have rises : (s.rxq.arm && !belowLevel s.rxq.watermark (s.rxq.used + size)) = true := by
        simp [arm, belowLevel, level, reached]
      exact ⟨(congrArg Rxq.arm rxq).trans (by rw [rises, arm]; rfl), congrArg done (nwc.trans (if_pos rises))⟩
    · have no_rise : (s.rxq.arm && !belowLevel s.rxq.watermark (s.rxq.used + size)) = false := by
        obtain arm | below := stands
        · simp [arm]
        · simp [belowLevel_iff.mpr below]
      refine ⟨(congrArg Rxq.arm rxq).trans (by rw [no_rise]; simp), congrArg done (nwc.trans (if_neg ?_))⟩
      rw [no_rise]
      exact Bool.false_ne_true
  · exact queueMark_of_no_queue no_queue
  · exact queueMark_of_full queues small
  · exact queueMark_of_fits queues fits
  · apply State.ext_blocks
    case rxq => exact Rxq.classified_frame j.hdr r s.rxq
    all_goals rfl

/-! #### Copy completion and clear completion (R124, R180) -/

section Copy
variable {l : Lvs} {p : SnapFlight} {sl : Slot}

theorem Lvs.endCopy_of_plain (snap : l.snap = some p) (slot : l.slots[p.slot]? = some sl) (plain : sl.deferred = none) :
    l.endCopy = { l with winValid := true, snap := none } := by
  simp only [Lvs.endCopy, snap, Lvs.slotAt_of_getElem? slot, plain]

theorem Lvs.endCopy_of_deferred {u : SlotContent} (snap : l.snap = some p) (slot : l.slots[p.slot]? = some sl)
    (deferred : sl.deferred = some u) :
    l.endCopy = { l with
      winValid := true
      snap := none
      slots := l.slots.set p.slot { sl with state := .fresh, content := u, age := 0, deferred := none } } := by
  simp only [Lvs.endCopy, snap, Lvs.slotAt_of_getElem? slot, deferred]
  rfl

theorem Lvs.endCopyFreshens_eq (snap : l.snap = some p) (slot : l.slots[p.slot]? = some sl) :
    l.endCopyFreshens = (sl.deferred.isSome && decide (sl.state ≠ .fresh)) := by
  simp only [Lvs.endCopyFreshens, snap, Lvs.slotAt_of_getElem? slot]

end Copy

theorem copyCompletes : Claim.CopyCompletes := by
  intro s p f sl snap busy slot
  have ends : copyDone s = complete .ok (if s.lvs.endCopyFreshens then raise .slot (s.withLvs s.lvs.endCopy)
      else s.withLvs s.lvs.endCopy) := if_pos (by simp [snap])
  refine ⟨fun plain => ?plain, fun u deferred => ?deferred⟩
  case plain =>
    have stands : s.lvs.endCopyFreshens = false := by simp [Lvs.endCopyFreshens_eq snap slot, plain]
    refine congrArg Host.Outcome.next ?_
    rw [ends, stands, if_neg Bool.false_ne_true, complete_of_inFlight (f := f) (by exact busy),
      Lvs.endCopy_of_plain snap slot plain]
    rfl
  case deferred =>
    refine congrArg Host.Outcome.next ?_
    by_cases fresh : sl.state = .fresh
    · have stands : s.lvs.endCopyFreshens = false := by simp [Lvs.endCopyFreshens_eq snap slot, fresh]
      rw [ends, stands, if_neg Bool.false_ne_true, complete_of_inFlight (f := f) (by exact busy),
        Lvs.endCopy_of_deferred snap slot deferred, if_pos fresh]
      rfl
    · have freshens : s.lvs.endCopyFreshens = true := by simp [Lvs.endCopyFreshens_eq snap slot, fresh, deferred]
      rw [ends, freshens, if_pos rfl, complete_of_inFlight (f := f) (by exact busy),
        Lvs.endCopy_of_deferred snap slot deferred, if_neg fresh]
      rfl

theorem clearCompletionEndsSoftReset : Claim.ClearCompletionEndsSoftReset := by
  intro s f busy soft
  have ends : clearDone s = complete .ok (s.withCmu { s.cmu with aborted := f.abortCode }) := by
    simp only [clearDone, busy, if_pos soft]
  refine congrArg Host.Outcome.next ?_
  rw [ends, complete_of_inFlight (f := f) (by exact busy), soft]
  rfl

/-- Settles O34: the window with the deferred update, and SOFT RESET completed. -/
theorem copyCompletionEndsTheSnapshot : Obligations.CopyCompletionEndsTheSnapshot :=
  ⟨copyCompletes, clearCompletionEndsSoftReset⟩

end Sys2Proof.Machine
end

section
/-! ### The response on the line (R133, R138, R139, R141 to R144) -/

namespace Sys2Proof.Machine

/-! #### The levels of LTX (R133, R141) -/

/-- A character's samples: the start bit, the data bits least significant first, the stop bit (R17). -/
theorem charSamples_bits (c : Byte) :
    (charSamples c).getLsbD 0 = false ∧ (∀ j < 8, (charSamples c).getLsbD (1 + j) = c.getLsbD j) ∧
      (charSamples c).getLsbD 9 = true := by
  refine ⟨?_, fun j lt => ?_, ?_⟩
  · rw [charSamples, BitVec.getLsbD_append, if_pos (by decide)]
    decide
  · rw [charSamples, BitVec.getLsbD_append, if_neg (by omega), BitVec.getLsbD_append, if_pos (by omega),
      Nat.add_sub_cancel_left]
  · rw [charSamples, BitVec.getLsbD_append, if_neg (by decide), BitVec.getLsbD_append, if_neg (by decide)]
    decide

theorem ltxLevels_cons (c : Byte) (cs : List Byte) :
    ltxLevels (c :: cs) = (List.range 10).map (fun k => (charSamples c).getLsbD k) ++ ltxLevels cs := rfl

theorem length_ltxLevels (chars : List Byte) : (ltxLevels chars).length = 10 * chars.length := by
  induction chars with
  | nil => rfl
  | cons c cs ih =>
    rw [ltxLevels_cons, List.length_append, List.length_map, List.length_range, ih, List.length_cons]
    omega

/-- The characters go back to back, ten bit times each. -/
theorem getElem?_ltxLevels {chars : List Byte} {i : Nat} {c : Byte} (char : chars[i]? = some c) {k : Nat} (lt : k < 10) :
    (ltxLevels chars)[10 * i + k]? = some ((charSamples c).getLsbD k) := by
  induction chars generalizing i with
  | nil => cases char
  | cons d cs ih =>
    rw [ltxLevels_cons]
    cases i with
    | zero =>
      obtain rfl : d = c := by simpa using char
      rw [Nat.mul_zero, Nat.zero_add, List.getElem?_append_left (by simpa using lt), List.getElem?_map,
        List.getElem?_range lt, Option.map_some]
    | succ i =>
      have later : ((List.range 10).map fun k => (charSamples d).getLsbD k).length ≤ 10 * (i + 1) + k := by
        simp only [List.length_map, List.length_range]
        omega
      have place : 10 * (i + 1) + k - ((List.range 10).map fun k => (charSamples d).getLsbD k).length = 10 * i + k := by
        simp only [List.length_map, List.length_range]
        omega
      rw [List.getElem?_append_right later, place]
      exact ih (by simpa using char)

section Ltx
variable {s : State} {chars : List Byte} {done : Nat}

theorem ltx_of_sending (sending : s.rsp.state = .sending chars done) (bit : Nat) :
    s.ltx bit = (ltxLevels chars).getD bit true := by
  simp only [State.ltx, sending]

theorem ltx_of_char (sending : s.rsp.state = .sending chars done) {i : Nat} {c : Byte} (char : chars[i]? = some c)
    {k : Nat} (lt : k < 10) : s.ltx (10 * i + k) = (charSamples c).getLsbD k := by
  rw [ltx_of_sending sending, List.getD_eq_getElem?_getD, getElem?_ltxLevels char lt, Option.getD_some]

theorem ltx_of_ltxen (off : s.ltxen = false) (bit : Nat) : s.ltx bit = true := by
  unfold State.ltxen at off
  unfold State.ltx
  split
  · next sending => simp only [sending, Bool.true_eq_false] at off
  · rfl
  · rfl

theorem ltxen_of_idle (idle : s.rsp.state = .idle) : s.ltxen = false := by
  simp only [State.ltxen, idle]

end Ltx

theorem ltxCarriesTheResponse : Claim.LtxCarriesTheResponse := by
  intro s
  refine ⟨ltx_of_ltxen, fun chars done sending => ⟨fun i c char => ⟨?_, fun j lt => ?_, ?_⟩,
    fun bit beyond => ?_⟩⟩
  · exact (ltx_of_char sending char (k := 0) (by decide)).trans (charSamples_bits c).1
  · rw [Nat.add_assoc, ltx_of_char sending char (by omega)]
    exact (charSamples_bits c).2.1 j lt
  · exact (ltx_of_char sending char (k := 9) (by decide)).trans (charSamples_bits c).2.2
  · rw [ltx_of_sending sending, List.getD_eq_default _ _ (by rw [length_ltxLevels]; exact beyond)]

/-! #### The wait ends (R138, R139) -/

theorem responseIsSentAfterTheWait : Claim.ResponseIsSentAfterTheWait := by
  intro s chars waiting hunt idle
  have sends : waitEnds s = (s.withRsp { s.rsp with state := .sending chars 0 }).withLrv
      { s.lrv with idle := some Config.responseDelay } := by
    simp only [waitEnds, waiting]
    exact if_pos ⟨hunt, idle⟩
  exact ⟨_, congrArg Host.Outcome.next sends, by simp only [State.ltxen, waiting], rfl, rfl⟩

/-! #### Readback (R142 to R144) -/

section Readback
variable {s : State} {b : Byte} {stop level : Bool} {chars : List Byte} {done : Nat}

theorem readbackChar_of_last (same : stop = true ∧ chars[done]? = some b) (last : 11 ≤ done + 1) :
    readbackChar b stop chars done s = count .responsesSent (s.withRsp { s.rsp with state := .idle }) :=
  (if_pos same).trans (if_pos last)

theorem readbackChar_of_more (same : stop = true ∧ chars[done]? = some b) (more : done + 1 < 11) :
    readbackChar b stop chars done s = s.withRsp { s.rsp with state := .sending chars (done + 1) } :=
  (if_pos same).trans (if_neg (Nat.not_le.mpr more))

theorem readbackChar_of_other (other : ¬(stop = true ∧ chars[done]? = some b)) :
    readbackChar b stop chars done s = readbackMismatch s := if_neg other

theorem readbackMismatch_of_not_stuck (not_stuck : s.lrv.rx ≠ .stuck) :
    readbackMismatch s = enterSkip (count .responseAborts (s.withRsp { s.rsp with state := .idle })) :=
  if_neg (by simpa using not_stuck)

/-- A mismatch stops the response: SKIP, no idle hold, one count (R143). -/
theorem readbackMismatch_ends (not_stuck : s.lrv.rx ≠ .stuck) :
    let t := syncIdle (readbackMismatch s)
    t.lrv.rx = .skip ∧ t.rsp.state = .idle ∧ t.ltxen = false ∧ (∀ bit, t.ltx bit = true) ∧
      t.clc.idleCount = none ∧ t.ctb.live.get .responseAborts = min 65535 (s.ctb.live.get .responseAborts + 1) ∧
      t.lrv.charBusy = s.lrv.charBusy ∧
      t = { s with clc := { s.clc with idleCount := t.clc.idleCount }, lrv := t.lrv,
                   rsp := { s.rsp with state := t.rsp.state }, nwc := t.nwc, ctb := t.ctb } := by
  dsimp only
  rw [readbackMismatch_of_not_stuck not_stuck]
  have not_hunt : (enterSkip (count .responseAborts (s.withRsp { s.rsp with state := .idle }))).lrv.rx ≠ .hunt := by
    simp [enterSkip]
  have idle : (syncIdle (enterSkip (count .responseAborts (s.withRsp { s.rsp with state := .idle })))).rsp.state =
      .idle := by
    simp
  have off := ltxen_of_idle idle
  refine ⟨by simp [enterSkip], idle, off, ltx_of_ltxen off, ?_, ?_, by simp [enterSkip], ?_⟩
  · rw [syncIdle_clc, syncedIdle_of_not_hunt not_hunt]
  · rw [syncIdle_ctb, enterSkip_ctb, get_count, State.withRsp_ctb]
  · apply State.ext_blocks <;> simp

theorem exec_readback (sending : s.rsp.state = .sending chars done) (busy : s.lrv.charBusy = true) :
    exec (.characterEnd b stop level) s = .next (syncIdle (readbackChar b stop chars done (endCharacter level s))) :=
  congrArg Host.Outcome.next (characterEnd_of_sending busy sending)

end Readback

theorem readbackDecidesTheResponse : Claim.ReadbackDecidesTheResponse := by
  intro s chars done sending hunt
  refine ⟨fun b stop level busy => ?echo, fun free => ?missing⟩
  case echo =>
    have runs := exec_readback (b := b) (stop := stop) (level := level) sending busy
    by_cases same : stop = true ∧ chars[done]? = some b
    · have no_other : ¬(stop = false ∨ chars[done]? ≠ some b) := by simp [same]
      by_cases last : 11 ≤ done + 1
      · rw [readbackChar_of_last same last] at runs
        have idle : (syncIdle (count .responsesSent ((endCharacter level s).withRsp
            { (endCharacter level s).rsp with state := .idle }))).rsp.state = .idle := by simp
        have off := ltxen_of_idle idle
        refine ⟨_, runs, by simp, fun _ => ⟨by simp [hunt], fun more => absurd last (Nat.not_le.mpr more),
          fun _ => ⟨idle, off, ltx_of_ltxen off, fun line none_runs => ?_, ?_⟩⟩,
          fun other => absurd other no_other, ?_⟩
        · rw [syncIdle_clc]
          simpa using syncedIdle_of_loads (s := count .responsesSent ((endCharacter level s).withRsp
            { (endCharacter level s).rsp with state := .idle })) (by simpa using line) (by simp [hunt]) (by simp)
            (by simpa using none_runs)
        · rw [syncIdle_ctb, get_count]
          simp
        · apply State.ext_blocks <;> simp
      · rw [readbackChar_of_more same (Nat.lt_of_not_le last)] at runs
        refine ⟨_, runs, by simp, fun _ => ⟨by simp [hunt], fun _ => ⟨by simp, by simp, ?_⟩,
          fun reached => absurd reached last⟩, fun other => absurd other no_other, ?_⟩
        · rw [syncIdle_clc, syncedIdle_of_busy (by simp)]
        · apply State.ext_blocks <;> simp
    · rw [readbackChar_of_other same] at runs
      obtain ⟨rx, idle, off, high, no_hold, counted, free, frame⟩ :=
        readbackMismatch_ends (s := endCharacter level s) (by simp [hunt])
      refine ⟨_, runs, free.trans (by simp), fun echo => absurd echo same,
        fun _ => ⟨rx, idle, off, high, no_hold, by simpa using counted⟩, ?_⟩
      rw [frame]
      apply State.ext_blocks <;> simp
  case missing =>
    have ends : echoMissing s = syncIdle (readbackMismatch s) := by
      simp only [echoMissing, sending]
      exact if_neg (by simp [free])
    obtain ⟨rx, idle, off, high, no_hold, counted, -, frame⟩ := readbackMismatch_ends (s := s) (by simp [hunt])
    exact ⟨_, congrArg Host.Outcome.next ends, rx, idle, off, high, no_hold, counted, frame⟩

/-- Settles O37: the levels of the response, the end of the wait, and the readback. -/
theorem responseIsSentAndReadBack : Obligations.ResponseIsSentAndReadBack :=
  ⟨ltxCarriesTheResponse, responseIsSentAfterTheWait, readbackDecidesTheResponse⟩

end Sys2Proof.Machine
end

section
/-! ### SOFT RESET (R5, R14, R59, R86, R112, R132, R148, R169, R179, R187) -/

namespace Sys2Proof.Machine

section Wrote
variable {s : State} {next : RegAddr}

theorem wrote_clc : (s.wrote next).clc = s.clc := rfl
theorem wrote_lrv : (s.wrote next).lrv = s.lrv := rfl
theorem wrote_srt : (s.wrote next).srt = s.srt := rfl
theorem wrote_acf : (s.wrote next).acf = s.acf := rfl
theorem wrote_rxq : (s.wrote next).rxq = s.rxq := rfl
theorem wrote_lvs : (s.wrote next).lvs = s.lvs := rfl
theorem wrote_rsp : (s.wrote next).rsp = s.rsp := rfl
theorem wrote_nwc : (s.wrote next).nwc = s.nwc := rfl
theorem wrote_ctb : (s.wrote next).ctb = s.ctb := rfl

end Wrote

section Blocks
variable {s : State}

theorem Cmu.takeSoftReset_of_idle {c : Cmu} (idle : c.inFlight = none) :
    c.takeSoftReset = { c with inFlight := some ⟨.softReset, c.arg, c.paramH ++ c.paramL, 0⟩ } := by
  simp only [Cmu.takeSoftReset, idle]
  rfl

theorem Cmu.takeSoftReset_of_busy {c : Cmu} {f : InFlight} (busy : c.inFlight = some f) :
    c.takeSoftReset = { c with
      last := f.cmd.code
      result := .aborted
      inFlight := some ⟨.softReset, c.arg, c.paramH ++ c.paramL, f.cmd.code⟩ } := by
  simp only [Cmu.takeSoftReset, busy]
  rfl

theorem takeSoftReset_clc : (takeSoftReset s).clc = ⟨.dormant, none, none⟩ := rfl

theorem takeSoftReset_lrv : (takeSoftReset s).lrv = .off := rfl

theorem takeSoftReset_rsp : (takeSoftReset s).rsp = ⟨.idle, none⟩ := rfl

theorem Rxq.abandon_softReset (q : Rxq) : q.abandon.softReset =
    { q with records := [], claim := .nothing, readPos := 0, arm := true } := by
  rw [Rxq.abandon_eq]
  rfl

/-- The flags whose set may arrive late, those of other blocks than the tick and the command unit (R169). -/
theorem isIn_lateFlags (f : Flag) : f.isIn lateFlags = decide (f ∉ [.stale, .cmdDone, .countSat]) := by
  cases f <;> decide

theorem isIn_softReset (f : Flag) (late : FlagSet) (n : Nwc) : f.isIn (n.softReset late).flags =
    (f.isIn n.flags && f.isIn late && decide (f ∉ [.stale, .cmdDone, .countSat])) := by
  rw [Nwc.softReset, Flag.isIn_and, Flag.isIn_and, isIn_lateFlags]

theorem Nwc.softReset_none (n : Nwc) : (n.softReset 0).flags = 0 := by simp [Nwc.softReset]

theorem Ctb.softReset_none (c : Ctb) : (c.softReset []).live = .zero := by
  simp only [Ctb.softReset, List.count_nil, Nat.zero_min]
  rfl

end Blocks

theorem softResetActsOnEveryBlock : Claim.SoftResetActsOnEveryBlock := by
  intro s writes late
  have taken : exec .softReset s = .next ((takeSoftReset s).wrote 0x07) :=
    congrArg Host.Outcome.next (hostWrite_cmdAddr writes)
  refine ⟨_, taken, ?ltx, fun sound => ?miso, fun idle => ?idle, fun f busy => ?busy, ?clc, ?lrv, ?rsp,
    ?srt, ?acf, ?rxq, ?lvs, ?nwc, fun f => ?flags, ?snap, fun k => ?counts, fun none_late => ?clear, ?wake, ?frame⟩
  case ltx =>
    have idle : ((takeSoftReset s).wrote 0x07).rsp.state = .idle := by rw [wrote_rsp, takeSoftReset_rsp]
    exact ltx_of_not_sending (.inl idle)
  case miso =>
    obtain ⟨low, running⟩ := sound.1 (by simp [writes.2.1])
    simp [State.miso, low, running, writes.2.1]
  case idle => rw [wrote_cmu, takeSoftReset_cmu, Cmu.takeSoftReset_of_idle idle]
  case busy => rw [wrote_cmu, takeSoftReset_cmu, Cmu.takeSoftReset_of_busy busy]
  case clc => rw [wrote_clc, takeSoftReset_clc]
  case lrv => rw [wrote_lrv, takeSoftReset_lrv]
  case rsp => rw [wrote_rsp, takeSoftReset_rsp]
  case srt =>
    rw [wrote_srt, takeSoftReset_srt]
    rfl
  case acf =>
    rw [wrote_acf, takeSoftReset_acf]
    rfl
  case rxq => rw [wrote_rxq, takeSoftReset_rxq, Rxq.abandon_softReset]
  case lvs =>
    rw [wrote_lvs, takeSoftReset_lvs]
    rfl
  case nwc =>
    rw [wrote_nwc, takeSoftReset_nwc]
    rfl
  case flags => rw [wrote_nwc, takeSoftReset_nwc, isIn_softReset]
  case snap =>
    rw [wrote_ctb, takeSoftReset_ctb]
    rfl
  case counts => rw [wrote_ctb, takeSoftReset_ctb, Ctb.softReset, Counts.get_ofFun]
  case clear =>
    have no_late : s.spi.late = ⟨0, []⟩ := none_late
    have no_flags : ((takeSoftReset s).wrote 0x07).nwc.flags = 0 := by
      rw [wrote_nwc, takeSoftReset_nwc, no_late, Nwc.softReset_none]
    refine ⟨no_flags, ?_, ?_⟩
    · rw [wrote_ctb, takeSoftReset_ctb, no_late, Ctb.softReset_none]
    · rw [State.irqN, Nwc.irq, no_flags]
      simp
  case wake => simp [State.wakePin, Nwc.wake, takeSoftReset_nwc, Nwc.softReset]
  case frame => simp [writes.1]

/-- Settles O45: every block at the taking, and the clear completion. -/
theorem softResetBeginsAndEnds : Obligations.SoftResetBeginsAndEnds :=
  ⟨softResetActsOnEveryBlock, clearCompletionEndsSoftReset⟩

end Sys2Proof.Machine
end

section
/-! ### Transactions and data bytes read (R188, R190, R191) -/

namespace Sys2Proof.Machine

/-! #### Transactions -/

section Miso
variable {s : State}

theorem miso_of_served (running : s.inReset = false) (low : s.spi.csN = false) : s.miso =
    match s.spi.phase with
    | .closed => none
    | .command status => some status
    | .write => some 0
    | .read l => some l.byte :=
  if_neg (by simp [running, low])

end Miso

theorem transactionsRun : Claim.TransactionsRun := by
  intro s
  refine ⟨fun running high => ?select, fun low => ?deselect, fun status b running opened => ?command,
    fun late running writing => ?arrivals, fun high => miso_of_not_served s (.inr high), fun running low =>
    ⟨fun phase => ?closed, fun phase => ?write, fun status phase => ?status, fun l phase => ?read⟩⟩
  case select =>
    refine congrArg Host.Outcome.next ((if_pos high).trans ?_)
    rw [if_neg (by simp [running])]
    rfl
  case deselect => exact congrArg Host.Outcome.next (if_neg (by simp [low]))
  case command =>
    refine congrArg Host.Outcome.next ((if_neg (by simp [running])).trans ?_)
    simp only [commandLoaded, opened]
    rfl
  case arrivals => exact congrArg Host.Outcome.next ((if_neg (by simp [running])).trans (if_pos writing))
  case closed => simp only [miso_of_served running low, phase]
  case write => simp only [miso_of_served running low, phase]
  case status => simp only [miso_of_served running low, phase]
  case read => simp only [miso_of_served running low, phase]

/-! #### The slot sets (R129) -/

theorem slotsIn_cons (st : SlotState) (sl : Slot) (slots : List Slot) :
    slotsIn st (sl :: slots) = (slotsIn st slots <<< 1) ||| (if sl.state = st then 1 else 0) := rfl

/-- Slot n stands at bit n. -/
theorem getLsbD_slotsIn {st : SlotState} {slots : List Slot} {n : Nat} {sl : Slot} (lt : n < 16)
    (slot : slots[n]? = some sl) : (slotsIn st slots).getLsbD n = decide (sl.state = st) := by
  induction slots generalizing n with
  | nil => cases slot
  | cons first rest ih =>
    rw [slotsIn_cons, BitVec.getLsbD_or]
    cases n with
    | zero =>
      obtain rfl : first = sl := by simpa using slot
      by_cases same : first.state = st <;> simp [same]
    | succ n =>
      have later : (slotsIn st rest).getLsbD n = decide (sl.state = st) := ih (by omega) (by simpa using slot)
      have shifted : (slotsIn st rest <<< 1).getLsbD (n + 1) = (slotsIn st rest).getLsbD n := by
        rw [BitVec.getLsbD_shiftLeft]
        simp [lt]
      have no_bit : (if first.state = st then (1 : BitVec 16) else 0).getLsbD (n + 1) = false := by
        split
        · simp
        · exact BitVec.getLsbD_zero
      rw [shifted, later, no_bit, Bool.or_false]

/-! #### The load of a register (R190) -/

section Loads
variable {s : State} {addr : RegAddr}

theorem readReg_qdata : s.readReg 0x2C = s.rxq.dataByte := readReg_of_common (by decide)

theorem readReg_of_page1 (page : s.spi.page = 1) (paged : 0x40 ≤ addr.toNat) :
    s.readReg addr = s.readPage1 addr.toNat := by
  have other : s.spi.page ≠ 0 := by
    rw [page]
    decide
  unfold State.readReg
  rw [if_neg (Nat.not_lt.mpr paged), if_neg other, if_pos page]

theorem readReg_sdata (page : s.spi.page = 1) : s.readReg 0x5E = s.lvs.dataByte := readReg_of_page1 page (by decide)

theorem loadEffect_qdata : s.loadEffect 0x2C = if s.rxq.dataMoves then .nextQueueByte else .nothing := rfl

theorem loadEffect_sdata (page : s.spi.page = 1) :
    s.loadEffect 0x5E = if s.lvs.dataMoves then .nextSlotByte else .nothing :=
  if_pos (c := (0x5E : RegAddr) = 0x5E ∧ s.spi.page = 1) ⟨rfl, page⟩

theorem loadEffect_of_other (other : addr ∉ [0x1E, 0x2D, 0x34, 0x15, 0x2C, 0x5E] ∨ (addr = 0x5E ∧ s.spi.page ≠ 1)) :
    s.loadEffect addr = .nothing := by
  obtain other | ⟨rfl, page⟩ := other
  · simp only [List.mem_cons, List.not_mem_nil, or_false, not_or] at other
    obtain ⟨tick, used, fresh, mitigation, qdata, sdata⟩ := other
    rw [State.loadEffect, if_neg tick, if_neg used, if_neg fresh, if_neg mitigation, if_neg qdata,
      if_neg fun h => sdata h.1]
  · exact if_neg (c := (0x5E : RegAddr) = 0x5E ∧ s.spi.page = 1) fun h => page h.2

end Loads

theorem loadTakesByteAndFigures : Claim.LoadTakesByteAndFigures := by
  intro s addr l
  refine ⟨rfl, ?tick, ?fill, ?sets, ?mitigation, ?qdata, ?sdata, fun other => loadEffect_of_other other⟩
  case tick =>
    rintro rfl
    exact congrArg (Load.mk · _) (readReg_of_common (by decide))
  case fill =>
    rintro rfl
    exact congrArg (Load.mk · _) (readReg_of_common (by decide))
  case sets =>
    rintro rfl
    refine ⟨slotsIn .fresh s.lvs.slots, slotsIn .stale s.lvs.slots,
      congrArg (Load.mk · _) (readReg_of_common (by decide)), fun n lt sl slot => ?_⟩
    exact ⟨getLsbD_slotsIn lt slot, getLsbD_slotsIn lt slot⟩
  case mitigation =>
    rintro rfl
    exact congrArg (Load.mk · _) (readReg_of_common (by decide))
  case qdata =>
    rintro rfl
    refine ⟨fun r rest records => ?_, fun none_queued => ?_⟩
    · change Load.mk _ _ = _
      rw [readReg_qdata, loadEffect_qdata]
      by_cases lt : s.rxq.readPos < 48 <;>
        simp [Rxq.dataByte, Rxq.dataMoves, Rxq.head, records, Config.maxPayload, lt]
    · change Load.mk _ _ = _
      rw [readReg_qdata, loadEffect_qdata]
      simp [Rxq.dataByte, Rxq.dataMoves, Rxq.head, none_queued]
  case sdata =>
    rintro rfl page
    refine ⟨fun valid => ?_, fun invalid => ?_⟩
    · change Load.mk _ _ = _
      rw [readReg_sdata page, loadEffect_sdata page]
      by_cases lt : s.lvs.readPos < 48 <;> simp [Lvs.dataByte, Lvs.dataMoves, valid, Config.maxPayload, lt]
    · change Load.mk _ _ = _
      rw [readReg_sdata page, loadEffect_sdata page]
      simp [Lvs.dataByte, Lvs.dataMoves, invalid]

/-! #### The completion of a data byte read (R190, R191) -/

section Reads
variable {s : State} {addr : RegAddr} {b : Byte} {e : LoadEffect}

theorem ptrAfter_eq (s : State) (addr : RegAddr) :
    ptrAfter s addr = if addr = 0x2C ∨ (addr = 0x5E ∧ s.spi.page = 1) then addr else addr + 1 := by
  simp only [ptrAfter, isDataPort_iff]

theorem applyLoad_spi : (applyLoad e s).spi = s.spi := by simp

/-- A data byte read: its effect, and the port's move. -/
theorem exec_dataRead (reads : s.ReadsAt addr ⟨b, e⟩) :
    exec (.commandByte .dataRead) s = .next ((applyLoad e s).gave b
      (if addr = 0x2C ∨ (addr = 0x5E ∧ s.spi.page = 1) then addr else addr + 1)) := by
  obtain ⟨running, phase, rfl⟩ := reads
  refine congrArg Host.Outcome.next ((if_neg (by simp [running])).trans ?_)
  rw [completeRead_of_read s phase, ← ptrAfter_eq, State.gave, applyLoad_spi]
  rfl

/-- A row of its own is the data byte at the pointer. -/
theorem exec_row {c : Instr} {l : Load} (reads : s.ReadsAt addr l) (row : c.readAddr = some addr) :
    exec c s = exec (.commandByte .dataRead) s := by
  obtain ⟨running, -, ptr⟩ := reads
  rw [exec_of_readAddr row, hostRead_of_ptr s running ptr]
  exact (congrArg Host.Outcome.next (if_neg (by simp [running]))).symm

end Reads

theorem dataBytesAreRead : Claim.DataBytesAreRead := by
  intro s addr b e reads
  refine ⟨?_, fun c => ?_, fun u f n => ?_, fun fresh stale => ?_, fun u => ?_, ?_, ?_, fun c row => exec_row reads row⟩
  all_goals
    rintro rfl
    exact exec_dataRead reads

theorem readsWithAnEffect : Claim.ReadsWithAnEffect := by
  intro s b
  refine ⟨fun c reads => ?_, fun u f n reads => ?_, fun fresh stale reads => ?_, fun u reads => ?_, fun reads => ?_,
    fun reads => ?_, fun page => ⟨fun reads => ?_, fun reads => ?_⟩⟩
  case refine_7 | refine_8 =>
    rw [exec_row reads rfl, exec_dataRead reads, if_pos (.inr ⟨rfl, page⟩)]
    rfl
  all_goals
    rw [exec_row reads rfl, exec_dataRead reads]
    rfl

/-- Settles O50: transactions, loads, and the completion of a data byte as `applyLoad` with the port's move. -/
theorem portReadsAndCommandByte : Obligations.PortReadsAndCommandByte :=
  ⟨transactionsRun, loadTakesByteAndFigures, dataBytesAreRead, readsWithAnEffect⟩

end Sys2Proof.Machine
end

section
/-! ### What a read of each register returns (R192, R197, Tables 82 to 86) -/

namespace Sys2Proof.Machine

/-! #### Bytes by their value -/

section Bytes
variable {n : Nat}

theorem toNat_lowByte (n : Nat) : (lowByte n).toNat = n % 256 := BitVec.toNat_ofNat n 8

theorem toNat_highByte (n : Nat) : (highByte n).toNat = n / 256 % 256 := BitVec.toNat_ofNat (n / 256) 8

/-- The two bytes of a count. -/
theorem toNat_lowByte_add_highByte (n : Nat) : (lowByte n).toNat + 256 * (highByte n).toNat = n % 65536 := by
  rw [toNat_lowByte, toNat_highByte]
  omega

theorem toNat_setWidth_byte {w : Nat} (v : BitVec w) (narrow : w ≤ 8) : (v.setWidth 8).toNat = v.toNat := by
  have lt : v.toNat < 2 ^ 8 := v.isLt.trans_le (Nat.pow_le_pow_right (by decide) narrow)
  rw [BitVec.toNat_setWidth, Nat.mod_eq_of_lt lt]

theorem toNat_bit_zero (b : Bool) : (bitAt 0 b).toNat = if b then 1 else 0 := by cases b <;> rfl

section Words
variable (v : BitVec 16) (topic : Topic)

theorem toNat_word_low : (v.extractLsb' 0 8).toNat = v.toNat % 256 := by
  rw [BitVec.extractLsb'_toNat, Nat.shiftRight_zero]

theorem toNat_word_high : (v.extractLsb' 8 8).toNat = v.toNat / 256 := by
  have lt := v.isLt
  rw [BitVec.extractLsb'_toNat, Nat.shiftRight_eq_div_pow]
  omega

theorem toNat_word : (v.extractLsb' 0 8).toNat + 256 * (v.extractLsb' 8 8).toNat = v.toNat := by
  rw [toNat_word_low, toNat_word_high]
  omega

theorem toNat_topic :
    (topic.extractLsb' 0 8).toNat + 256 * ((topic.extractLsb' 8 4).setWidth 8).toNat = topic.toNat := by
  have lt := topic.isLt
  rw [toNat_setWidth_byte _ (by decide), BitVec.extractLsb'_toNat, BitVec.extractLsb'_toNat, Nat.shiftRight_zero,
    Nat.shiftRight_eq_div_pow]
  omega

end Words

theorem toNat_append_eq {m k : Nat} (x : BitVec m) (y : BitVec k) : (x ++ y).toNat = 2 ^ k * x.toNat + y.toNat := by
  rw [BitVec.toNat_append, Nat.shiftLeft_eq, Nat.mul_comm]
  exact (Nat.two_pow_add_eq_or_of_lt y.isLt _).symm

end Bytes

/-! #### The status registers and the registers of the command and notification units (R197) -/

section Common
variable {s : State} {addr : RegAddr} {x : Byte} {n : Nat}

/-- A register of the common area, by the byte it shows. -/
theorem val_common (common : addr.toNat < 0x40) (value : (s.readCommon addr.toNat).toNat = n) :
    (s.readReg addr).toNat = n := by rw [readReg_of_common common, value]

theorem toNat_lineCode (l : LineState) : l.code.toNat =
    match l with
    | .dormant => 0 | .listen => 1 | .rising => 2 | .active => 3 := by cases l <;> rfl

theorem toNat_rxCode (rx : RxState) : rx.code.toNat =
    match rx with
    | .off => 0 | .hunt => 1 | .header => 2 | .body => 3 | .skip => 4 | .stuck => 5 := by cases rx <;> rfl

theorem toNat_rspCode (r : RspState) : r.code.toNat =
    match r with
    | .idle => 0 | .waiting _ => 1 | .sending _ _ => 2 := by cases r <;> rfl

theorem toNat_resultCode (r : CmdResult) : r.code.toNat =
    match r with
    | .ok => 0 | .state => 1 | .arg => 2 | .empty => 3 | .notFound => 4 | .full => 5 | .aborted => 6 := by
  cases r <;> rfl

theorem toNat_statusL (s : State) : s.statusL.toNat =
    s.clc.line.code.toNat + 4 * (if s.clc.line = .active then s.lrv.rx.code.toNat else 0) +
      32 * s.rsp.state.code.toNat + 128 * (if s.cmu.inFlight = none then 0 else 1) := by
  have receiver : (if s.clc.line = .active then s.lrv.rx else .off).code.toNat =
      if s.clc.line = .active then s.lrv.rx.code.toNat else 0 := by split <;> rfl
  have busy : (if s.cmu.inFlight.isSome then (1 : BitVec 1) else 0).toNat = if s.cmu.inFlight = none then 0 else 1 := by
    cases s.cmu.inFlight <;> rfl
  rw [State.statusL, toNat_append_eq, toNat_append_eq, toNat_append_eq, receiver, busy]
  omega

theorem toNat_two_bits (a b : Bool) :
    (bitAt 0 a ||| bitAt 1 b).toNat = (if a then 1 else 0) + 2 * (if b then 1 else 0) := by
  cases a <;> cases b <;> rfl

/-- The two registers of a flag set hold each flag at its place (Table 86). -/
theorem getLsbD_flagRegister (f : Flag) (v : FlagSet) :
    (if f.bit / 8 = 0 then flagsLow v else flagsHigh v).getLsbD (f.bit % 8) = f.isIn v := by
  have lt := f.bit_lt
  by_cases low : f.bit < 8
  · simp [Nat.div_eq_of_lt low, Nat.mod_eq_of_lt low, flagsLow, Flag.isIn, low]
  · have high : f.bit / 8 ≠ 0 := by omega
    have place : f.bit % 8 < 2 := by omega
    have back : 8 + f.bit % 8 = f.bit := by omega
    have within : f.bit % 8 < 8 := by omega
    simp [high, flagsHigh, Flag.isIn, place, back, within]

/-- The flag registers of a set stand at two addresses of the common area, low first. -/
theorem getLsbD_readReg_flags (f : Flag) {low : RegAddr} {v : FlagSet} (lt : low.toNat < 0x3F)
    (shows_low : s.readCommon low.toNat = flagsLow v) (shows_high : s.readCommon (low.toNat + 1) = flagsHigh v) :
    (s.readReg (low + BitVec.ofNat 7 (f.bit / 8))).getLsbD (f.bit % 8) = f.isIn v := by
  rw [← getLsbD_flagRegister f v]
  have bound := f.bit_lt
  by_cases first : f.bit / 8 = 0
  · rw [first, if_pos rfl, show low + BitVec.ofNat 7 0 = low from BitVec.add_zero low, readReg_of_common (by omega),
      shows_low]
  · have second : f.bit / 8 = 1 := by omega
    have next : (low + 1).toNat = low.toNat + 1 := by
      rw [BitVec.toNat_add]
      change (low.toNat + 1) % 128 = _
      omega
    rw [second, if_neg (by decide), show low + BitVec.ofNat 7 1 = low + 1 from rfl, readReg_of_common (by omega), next,
      shows_high]

theorem toNat_flagsHigh_lt (v : FlagSet) : (flagsHigh v).toNat < 4 := by
  rw [flagsHigh, toNat_setWidth_byte _ (by decide)]
  exact (v.extractLsb' 8 2).isLt

end Common

theorem statusAndCommandRegistersRead : Claim.StatusAndCommandRegistersRead := by
  intro s val
  refine ⟨val_common (by decide) ?statusL, val_common (by decide) ?statusH,
    val_common (by decide) (toNat_setWidth_byte _ (by decide)), readReg_of_common (by decide),
    readReg_of_common (by decide), readReg_of_common (by decide), readReg_of_common (by decide),
    readReg_of_common (by decide), val_common (by decide) ?result, readReg_of_common (by decide),
    val_common (by decide) (toNat_two_bits _ _), fun f => ⟨?_, ?_, ?_, ?_⟩, fun high mem => ?high,
    val_common (by decide) (toNat_lowByte _), val_common (by decide) (toNat_lowByte _),
    val_common (by decide) (toNat_lowByte _), val_common (by decide) (toNat_highByte _)⟩
  case statusL =>
    have value := toNat_statusL s
    rw [toNat_lineCode, toNat_rxCode, toNat_rspCode] at value
    exact value
  case statusH =>
    refine (toNat_two_bits _ _).trans ?_
    simp
  case result => exact toNat_resultCode s.cmu.result
  case high =>
    simp only [List.mem_cons, List.not_mem_nil, or_false] at mem
    obtain rfl | rfl | rfl | rfl := mem <;> exact (val_common (by decide) rfl).trans_lt (toNat_flagsHigh_lt _)
  all_goals exact getLsbD_readReg_flags f (by decide) rfl rfl

end Sys2Proof.Machine
end

section
/-! ### The head of the queue, the fill figures and the slot sets (R4, R98, R105, R129) -/

namespace Sys2Proof.Machine

section Head
variable {s : State} {r : Record} {rest : List Record} {f : Record → Byte}

theorem headByte_of_head (records : s.rxq.records = r :: rest) (f : Record → Byte) : s.rxq.headByte f = f r := by
  simp only [Rxq.headByte, Rxq.head, records, List.head?_cons]

theorem headByte_of_none (empty : s.rxq.records = []) (f : Record → Byte) : s.rxq.headByte f = 0 := by
  simp only [Rxq.headByte, Rxq.head, empty, List.head?_nil]

theorem dataByte_of_none (empty : s.rxq.records = []) : s.rxq.dataByte = 0 := by
  simp only [Rxq.dataByte, Rxq.head, empty, List.head?_nil]

/-- A HEAD register, by the byte it shows of the record. -/
theorem readReg_head {addr : RegAddr} (records : s.rxq.records = r :: rest) (common : addr.toNat < 0x40)
    (shows : s.readCommon addr.toNat = s.rxq.headByte f) : s.readReg addr = f r := by
  rw [readReg_of_common common, shows, headByte_of_head records]

theorem val_of_eq {addr : RegAddr} {x : Byte} {n : Nat} (value : x.toNat = n) (shows : s.readReg addr = x) :
    (s.readReg addr).toNat = n := by rw [shows, value]

/-- Two registers that show a figure's two bytes. -/
theorem val_pair {low high : RegAddr} {x y : Byte} {n : Nat} (value : x.toNat + 256 * y.toNat = n)
    (shows_low : s.readReg low = x) (shows_high : s.readReg high = y) :
    (s.readReg low).toNat + 256 * (s.readReg high).toNat = n := by rw [shows_low, shows_high, value]

/-- With no head every HEAD register reads 0. -/
theorem readCommon_of_no_head (empty : s.rxq.records = []) {a : Nat} (from_head : 0x20 ≤ a) (to_data : a ≤ 0x2C) :
    s.readCommon a = 0 := by
  have first : s.readCommon 0x20 = 0 := by
    change bitAt 0 s.rxq.records.head?.isSome = 0
    rw [empty]
    rfl
  obtain rfl | past_first := Nat.eq_or_lt_of_le from_head
  · exact first
  obtain rfl | before_data := Nat.eq_or_lt_of_le to_data
  · exact dataByte_of_none empty
  interval_cases a <;> exact headByte_of_none empty _

/-- HEAD_FLAGS and the control bytes, each a few fields side by side (Table 86). -/
theorem toNat_head_flags (kind urgent slot : Bool) (relation : BitVec 3) (small : relation.toNat < 5) :
    (bitAt 0 kind ||| (relation.setWidth 8 <<< 1) ||| bitAt 4 urgent ||| bitAt 5 slot).toNat =
      (if kind then 1 else 0) + 2 * relation.toNat + 16 * (if urgent then 1 else 0) + 32 * (if slot then 1 else 0) := by
  revert kind urgent slot relation
  decide

theorem toNat_relationCode (f : RelFlag) : f.code.toNat =
    match f with
    | .nothing => 0 | .first => 1 | .gap _ => 2 | .resync => 3 | .untracked => 4 := by cases f <;> rfl

theorem toNat_recordFlags (r : Record) : r.flags.toNat = (if r.kind = .send then 1 else 0) +
    2 * r.relation.code.toNat + 16 * (if r.urgent then 1 else 0) + 32 * (if r.slot = none then 0 else 1) := by
  have small : r.relation.code.toNat < 5 := by cases r.relation <;> simp [RelFlag.code]
  rw [Record.flags, toNat_head_flags _ _ _ _ small]
  cases r.slot <;> simp

theorem toNat_gapByte (f : RelFlag) : (lowByte f.gapSize).toNat =
    match f with
    | .gap n => n % 256
    | _ => 0 := by
  rw [toNat_lowByte]
  cases f <;> rfl

theorem toNat_matchCode (m : Match) : m.code.toNat =
    match m with
    | .entry n => n % 256 | .hash => 32 | .openMode => 33 | .nothing => 0 := by
  cases m with
  | entry n => exact BitVec.toNat_ofNat n 8
  | _ => rfl

end Head

theorem queueAndSetRegistersRead : Claim.QueueAndSetRegistersRead := by
  intro s val
  refine ⟨val_common (by decide) (toNat_word_low _), val_common (by decide) (toNat_word_high _),
    fun empty addr from_head to_data => ?no_head, fun r rest records => ?head, val_common (by decide) (toNat_lowByte _),
    val_common (by decide) (toNat_highByte _), ?free, ?count, val_common (by decide) (toNat_lowByte _),
    val_common (by decide) (toNat_word_high _), ?stale, fun n lt sl slot => ?fresh,
    val_common (by decide) (toNat_lowByte _), fun addr from_free to_end => ?no_register⟩
  case no_head =>
    rw [readReg_of_common (by omega)]
    exact readCommon_of_no_head empty from_head to_data
  case free =>
    exact val_pair (toNat_lowByte_add_highByte s.rxq.capFree) (readReg_of_common (by decide))
      (readReg_of_common (by decide))
  case count =>
    exact val_pair (toNat_lowByte_add_highByte s.rxq.capCount) (readReg_of_common (by decide))
      (readReg_of_common (by decide))
  case stale => exact val_pair (toNat_word s.lvs.capStale) (readReg_of_common (by decide)) (readReg_of_common (by decide))
  case fresh =>
    have shows : s.readReg 0x34 = (slotsIn .fresh s.lvs.slots).extractLsb' 0 8 := readReg_of_common (by decide)
    rw [shows, BitVec.getLsbD_extractLsb', Nat.zero_add, getLsbD_slotsIn (by omega) slot]
    simp [lt]
  case no_register =>
    rw [readReg_of_common (by omega)]
    generalize addr.toNat = a at from_free to_end
    interval_cases a <;> rfl
  case head =>
    have is_some : s.rxq.records.head?.isSome = true := by rw [records]; rfl
    refine ⟨val_common (by decide) ((toNat_bit_zero _).trans (if_pos is_some)),
      readReg_head (f := (·.source)) records (by decide) rfl,
      val_pair (toNat_topic r.topic) (readReg_head (f := (·.topic.extractLsb' 0 8)) records (by decide) rfl)
        (readReg_head (f := fun r => (r.topic.extractLsb' 8 4).setWidth 8) records (by decide) rfl),
      val_of_eq (toNat_setWidth_byte r.seq (by decide)) (readReg_head (f := (·.seq.setWidth 8)) records (by decide) rfl),
      val_of_eq (toNat_lowByte r.length) (readReg_head (f := fun r => lowByte r.length) records (by decide) rfl),
      ?_,
      val_of_eq (toNat_gapByte r.relation)
        (readReg_head (f := fun r => lowByte r.relation.gapSize) records (by decide) rfl),
      val_of_eq (toNat_lowByte (r.slot.getD 0))
        (readReg_head (f := fun r => lowByte (r.slot.getD 0)) records (by decide) rfl),
      val_of_eq (toNat_matchCode r.matched) (readReg_head (f := (·.matched.code)) records (by decide) rfl),
      val_pair (toNat_word r.stamp) (readReg_head (f := (·.stamp.extractLsb' 0 8)) records (by decide) rfl)
        (readReg_head (f := (·.stamp.extractLsb' 8 8)) records (by decide) rfl)⟩
    have value := val_of_eq (toNat_recordFlags r)
      (readReg_head (addr := 0x26) (f := Record.flags) records (by decide) rfl)
    rw [toNat_relationCode] at value
    exact value

end Sys2Proof.Machine
end

section
/-! ### The paged area (R57, R75, R123, R192, Tables 83 to 85) -/

namespace Sys2Proof.Machine

section Pages
variable {s : State} {addr : RegAddr}

theorem readReg_of_page0 (page : s.spi.page = 0) (paged : 0x40 ≤ addr.toNat) :
    s.readReg addr = s.acf.hash.getD (addr.toNat - 0x40) 0 := by
  rw [State.readReg, if_neg (Nat.not_lt.mpr paged), if_pos page]
  rfl

theorem readReg_of_page2 (page : s.spi.page = 2) (paged : 0x40 ≤ addr.toNat) :
    s.readReg addr = s.readPage2 addr.toNat := by
  rw [State.readReg, if_neg (Nat.not_lt.mpr paged), page]
  rfl

theorem readReg_of_page3 (page : s.spi.page = 3) (paged : 0x40 ≤ addr.toNat) : s.readReg addr = 0 := by
  rw [State.readReg, if_neg (Nat.not_lt.mpr paged), page]
  rfl

theorem toNat_pagedAddr {k : Nat} (lt : k < 64) : (BitVec.ofNat 7 (0x40 + k)).toNat = 0x40 + k := by
  rw [BitVec.toNat_ofNat]
  omega

/-! #### Page 1 (Table 83) -/

theorem toNat_ctrl (valid urgent : Bool) (kinds action : BitVec 2) :
    (bitAt 0 valid ||| (kinds.setWidth 8 <<< 1) ||| (action.setWidth 8 <<< 3) ||| bitAt 5 urgent).toNat =
      (if valid then 1 else 0) + 2 * kinds.toNat + 8 * action.toNat + 32 * (if urgent then 1 else 0) := by
  revert valid urgent kinds action
  decide

theorem toNat_actionCode (a : Action) : a.code.toNat =
    match a with
    | .queue => 0 | .latest => 1 | .both => 2 | .discard => 3 := by cases a <;> rfl

theorem toNat_slotCode (st : SlotState) : st.code.toNat =
    match st with
    | .empty => 0 | .fresh => 1 | .seen => 2 | .stale => 3 := by cases st <;> rfl

theorem windowByte_of_source {w : SourceWindow} (window : s.srt.window = some w) (f : SourceWindow → Byte) :
    s.srt.windowByte f = f w := by
  simp only [Srt.windowByte, window]

theorem windowByte_of_no_source (no_window : s.srt.window = none) (f : SourceWindow → Byte) : s.srt.windowByte f = 0 := by
  simp only [Srt.windowByte, no_window]

theorem windowByte_of_valid (valid : s.lvs.winValid = true) (f : SnapWindow → Byte) :
    s.lvs.windowByte f = f s.lvs.window := if_pos valid

theorem windowByte_of_invalid (invalid : s.lvs.winValid = false) (f : SnapWindow → Byte) : s.lvs.windowByte f = 0 :=
  if_neg (by simp [invalid])

/-- A register of the source window, by the byte it shows of it. -/
theorem readReg_source {w : SourceWindow} {f : SourceWindow → Byte} (page : s.spi.page = 1)
    (window : s.srt.window = some w) (paged : 0x40 ≤ addr.toNat) (shows : s.readPage1 addr.toNat = s.srt.windowByte f) :
    s.readReg addr = f w := by
  rw [readReg_of_page1 page paged, shows, windowByte_of_source window]

/-- A register of the snapshot window, by the byte it shows of it. -/
theorem readReg_snap {f : SnapWindow → Byte} (page : s.spi.page = 1) (valid : s.lvs.winValid = true)
    (paged : 0x40 ≤ addr.toNat) (shows : s.readPage1 addr.toNat = s.lvs.windowByte f) :
    s.readReg addr = f s.lvs.window := by
  rw [readReg_of_page1 page paged, shows, windowByte_of_valid valid]

theorem toNat_verdictCode (v : Option Verdict) : (v.elim (0 : Byte) Verdict.code).toNat =
    match v with
    | none => 0 | some .accept => 1 | some .refuseFull => 2 | some .refuseFilter => 3 := by
  rcases v with _ | v
  · rfl
  · cases v <;> rfl

theorem toNat_source_bits (pinned seq verdict : Bool) (code : Fin 4) :
    (bitAt 0 true ||| bitAt 1 pinned ||| bitAt 2 seq ||| bitAt 3 verdict ||| (BitVec.ofNat 8 code <<< 4)).toNat =
      1 + 2 * (if pinned then 1 else 0) + 4 * (if seq then 1 else 0) + 8 * (if verdict then 1 else 0) + 16 * code := by
  revert pinned seq verdict code
  decide

theorem ite_isSome {α : Type} [DecidableEq α] (o : Option α) :
    (if o.isSome = true then 1 else 0) = if o = none then 0 else 1 := by cases o <;> rfl

/-- SRCW_FLAGS: four flags and the verdict's code (Table 86). -/
theorem toNat_sourceFlags (w : SourceWindow) : w.flags.toNat =
    1 + 2 * (if w.entry.pinned then 1 else 0) + 4 * (if w.entry.lastSeq = none then 0 else 1) +
      8 * (if w.entry.lastVerdict = none then 0 else 1) +
      16 * (w.entry.lastVerdict.elim (0 : Byte) Verdict.code).toNat := by
  have small : (w.entry.lastVerdict.elim (0 : Byte) Verdict.code).toNat < 4 := by
    rw [toNat_verdictCode]
    split <;> decide
  have bits := toNat_source_bits w.entry.pinned w.entry.lastSeq.isSome w.entry.lastVerdict.isSome ⟨_, small⟩
  rw [BitVec.ofNat_toNat, BitVec.setWidth_eq] at bits
  rw [SourceWindow.flags, bits, ite_isSome, ite_isSome]

theorem toNat_snapStatus (code : BitVec 2) (slot : Fin 16) :
    (bitAt 0 true ||| (code.setWidth 8 <<< 1) ||| (lowByte slot <<< 4)).toNat = 1 + 2 * code.toNat + 16 * slot := by
  revert code slot
  decide

theorem toNat_status {w : SnapWindow} (lt : w.slot < 16) :
    w.status.toNat = 1 + 2 * w.state.code.toNat + 16 * w.slot := toNat_snapStatus w.state.code ⟨w.slot, lt⟩

theorem toNat_lastSeq (q : Option Seq) : (q.elim (0 : Byte) (·.setWidth 8)).toNat =
    match q with
    | none => 0
    | some q => q.toNat := by
  cases q with
  | none => rfl
  | some q => exact toNat_setWidth_byte q (by decide)

end Pages

theorem stagingRegistersRead (s : State) (page : s.spi.page = 1) :
    let val := fun addr : RegAddr => (s.readReg addr).toNat
    let g := s.acf.staging
    val 0x40 = (if g.valid then 1 else 0) + 2 * g.kinds.toNat + 8 * g.action.code.toNat +
        32 * (if g.urgent then 1 else 0) ∧
      val 0x41 + 256 * val 0x42 = g.topicLow.toNat ∧ val 0x43 + 256 * val 0x44 = g.topicHigh.toNat ∧
      s.readReg 0x45 = g.source ∧ s.readReg 0x46 = g.slot ∧ val 0x47 + 256 * val 0x48 = g.hitView % 65536 := by
  intro val g
  exact ⟨val_of_eq (toNat_ctrl g.valid g.urgent g.kinds g.action.code) (readReg_of_page1 page (by decide)),
    val_pair (toNat_topic g.topicLow) (readReg_of_page1 page (by decide)) (readReg_of_page1 page (by decide)),
    val_pair (toNat_topic g.topicHigh) (readReg_of_page1 page (by decide)) (readReg_of_page1 page (by decide)),
    readReg_of_page1 page (by decide), readReg_of_page1 page (by decide),
    val_pair (toNat_lowByte_add_highByte g.hitView) (readReg_of_page1 page (by decide))
      (readReg_of_page1 page (by decide))⟩

section Windows
variable {s : State}

theorem readPage1_of_no_source (no_window : s.srt.window = none) {a : Nat} (first : 0x49 ≤ a) (last : a ≤ 0x50) :
    s.readPage1 a = 0 := by
  interval_cases a <;> exact windowByte_of_no_source no_window _

theorem readPage1_of_no_snap (invalid : s.lvs.winValid = false) {a : Nat} (first : 0x51 ≤ a) (last : a ≤ 0x5E) :
    s.readPage1 a = 0 := by
  obtain rfl | before_valid := Nat.eq_or_lt_of_le last
  · exact if_neg (by simp [invalid])
  interval_cases a <;> simp only [State.readPage1, windowByte_of_invalid invalid]

theorem readPage1_of_no_register {a : Nat} (first : 0x5F ≤ a) (last : a < 0x80) : s.readPage1 a = 0 := by
  interval_cases a <;> rfl

end Windows

theorem sourceWindowRegistersRead (s : State) (page : s.spi.page = 1) (w : SourceWindow) (window : s.srt.window = some w) :
    let val := fun addr : RegAddr => (s.readReg addr).toNat
    val 0x49 = 1 + 2 * (if w.entry.pinned then 1 else 0) + 4 * (if w.entry.lastSeq = none then 0 else 1) +
        8 * (if w.entry.lastVerdict = none then 0 else 1) +
        16 * (w.entry.lastVerdict.elim (0 : Byte) Verdict.code).toNat ∧
      val 0x4A = w.pos % 256 ∧ s.readReg 0x4B = w.entry.addr ∧
      val 0x4C = (w.entry.lastSeq.elim (0 : Byte) (·.setWidth 8)).toNat ∧
      val 0x4D = w.entry.gapTotal % 256 ∧ val 0x4E = w.entry.dupTotal % 256 ∧
      val 0x4F + 256 * val 0x50 = w.entry.heard.toNat :=
  ⟨val_of_eq (toNat_sourceFlags w) (readReg_source (f := SourceWindow.flags) page window (by decide) rfl),
    val_of_eq (toNat_lowByte w.pos) (readReg_source (f := fun w => lowByte w.pos) page window (by decide) rfl),
    readReg_source (f := (·.entry.addr)) page window (by decide) rfl,
    congrArg BitVec.toNat (readReg_source (f := fun w => w.entry.lastSeq.elim (0 : Byte) (·.setWidth 8)) page window
      (by decide) rfl),
    val_of_eq (toNat_lowByte w.entry.gapTotal)
      (readReg_source (f := fun w => lowByte w.entry.gapTotal) page window (by decide) rfl),
    val_of_eq (toNat_lowByte w.entry.dupTotal)
      (readReg_source (f := fun w => lowByte w.entry.dupTotal) page window (by decide) rfl),
    val_pair (toNat_word w.entry.heard)
      (readReg_source (f := (·.entry.heard.extractLsb' 0 8)) page window (by decide) rfl)
      (readReg_source (f := (·.entry.heard.extractLsb' 8 8)) page window (by decide) rfl)⟩

theorem snapWindowRegistersRead (s : State) (page : s.spi.page = 1) (valid : s.lvs.winValid = true) :
    let val := fun addr : RegAddr => (s.readReg addr).toNat
    let w := s.lvs.window
    (w.slot < 16 → val 0x51 = 1 + 2 * w.state.code.toNat + 16 * w.slot) ∧
      val 0x52 = w.unread % 256 ∧ val 0x53 + 256 * val 0x54 = w.age % 65536 ∧
      val 0x55 + 256 * val 0x56 = w.maxAge % 65536 ∧ s.readReg 0x57 = w.content.source ∧
      val 0x58 + 256 * val 0x59 = w.content.topic.toNat ∧ val 0x5A = w.content.seq.toNat ∧
      val 0x5B = w.content.length % 256 ∧ val 0x5C + 256 * val 0x5D = w.content.stamp.toNat := by
  intro val w
  have shows := fun (addr : RegAddr) (f : SnapWindow → Byte) => readReg_snap (addr := addr) (f := f) page valid
  exact ⟨fun lt => val_of_eq (toNat_status lt) (shows 0x51 SnapWindow.status (by decide) rfl),
    val_of_eq (toNat_lowByte w.unread) (shows 0x52 (fun w => lowByte w.unread) (by decide) rfl),
    val_pair (toNat_lowByte_add_highByte w.age) (shows 0x53 (fun w => lowByte w.age) (by decide) rfl)
      (shows 0x54 (fun w => highByte w.age) (by decide) rfl),
    val_pair (toNat_lowByte_add_highByte w.maxAge) (shows 0x55 (fun w => lowByte w.maxAge) (by decide) rfl)
      (shows 0x56 (fun w => highByte w.maxAge) (by decide) rfl),
    shows 0x57 (·.content.source) (by decide) rfl,
    val_pair (toNat_topic w.content.topic) (shows 0x58 (·.content.topic.extractLsb' 0 8) (by decide) rfl)
      (shows 0x59 (fun w => (w.content.topic.extractLsb' 8 4).setWidth 8) (by decide) rfl),
    val_of_eq (toNat_setWidth_byte w.content.seq (by decide)) (shows 0x5A (·.content.seq.setWidth 8) (by decide) rfl),
    val_of_eq (toNat_lowByte w.content.length) (shows 0x5B (fun w => lowByte w.content.length) (by decide) rfl),
    val_pair (toNat_word w.content.stamp) (shows 0x5C (·.content.stamp.extractLsb' 0 8) (by decide) rfl)
      (shows 0x5D (·.content.stamp.extractLsb' 8 8) (by decide) rfl)⟩

/-! #### Page 2 (Table 85) -/

section Snapshots
variable {s : State} {k : Counter} {n : Nat}

theorem lt_of_counter (counter : Counter.all[n]? = some k) : n < 15 := by
  obtain ⟨lt, -⟩ := List.getElem?_eq_some_iff.mp counter
  exact lt

/-- The two registers of a counter's snapshot, low byte first. -/
theorem readReg_snapshot (page : s.spi.page = 2) (counter : Counter.all[n]? = some k) :
    s.readReg (BitVec.ofNat 7 (0x40 + 2 * n)) = lowByte (s.ctb.snap.get k) ∧
      s.readReg (BitVec.ofNat 7 (0x41 + 2 * n)) = highByte (s.ctb.snap.get k) := by
  have lt := lt_of_counter counter
  have low : (BitVec.ofNat 7 (0x40 + 2 * n)).toNat = 0x40 + 2 * n := toNat_pagedAddr (by omega)
  have high : (BitVec.ofNat 7 (0x41 + 2 * n)).toNat = 0x41 + 2 * n := by
    rw [BitVec.toNat_ofNat]
    omega
  have low_index : (0x40 + 2 * n - 0x40) / 2 = n := by omega
  have high_index : (0x41 + 2 * n - 0x40) / 2 = n := by omega
  constructor
  · rw [readReg_of_page2 page (by omega), low, State.readPage2, low_index, counter]
    exact if_pos (by omega)
  · rw [readReg_of_page2 page (by omega), high, State.readPage2, high_index, counter]
    exact if_neg (by omega)

theorem readPage2_of_no_counter {a : Nat} (beyond : 0x5E ≤ a) : s.readPage2 a = 0 := by
  have no_counter : Counter.all[(a - 0x40) / 2]? = none := by
    rw [List.getElem?_eq_none_iff]
    change 15 ≤ _
    omega
  simp only [State.readPage2, no_counter]

end Snapshots

theorem pagedRegistersRead : Claim.PagedRegistersRead := by
  intro s val
  refine ⟨fun page k v lt member => ?hash, fun page => ⟨?staging, fun no_window addr first last => ?no_source,
    fun w window => ?source, fun invalid addr first last => ?no_snap, fun valid => ?snap, fun addr first => ?no_register⟩,
    fun page k n counter => ?counters, fun page addr beyond => ?no_counter,
    fun page addr paged => readReg_of_page3 page paged⟩
  case hash =>
    have place := toNat_pagedAddr lt
    rw [readReg_of_page0 page (by omega), place, Nat.add_sub_cancel_left, List.getD_eq_getElem?_getD, member,
      Option.getD_some]
  case staging =>
    have registers := stagingRegistersRead s page
    dsimp only at registers
    rw [toNat_actionCode] at registers
    exact registers
  case no_source =>
    rw [readReg_of_page1 page (by omega)]
    exact readPage1_of_no_source no_window first last
  case source =>
    have registers := sourceWindowRegistersRead s page w window
    dsimp only at registers
    rw [toNat_verdictCode, toNat_lastSeq] at registers
    exact registers
  case no_snap =>
    rw [readReg_of_page1 page (by omega)]
    exact readPage1_of_no_snap invalid first last
  case snap =>
    have registers := snapWindowRegistersRead s page valid
    dsimp only at registers
    rw [toNat_slotCode] at registers
    exact registers
  case no_register =>
    rw [readReg_of_page1 page (by omega)]
    exact readPage1_of_no_register first addr.isLt
  case counters =>
    obtain ⟨low, high⟩ := readReg_snapshot page counter
    exact val_pair (toNat_lowByte_add_highByte (s.ctb.snap.get k)) low high
  case no_counter =>
    rw [readReg_of_page2 page (by omega)]
    exact readPage2_of_no_counter beyond

/-- Settles O51: each register by the byte the model shows there and that byte's value. -/
theorem registersShowTheirOwners : Obligations.RegistersShowTheirOwners :=
  ⟨statusAndCommandRegistersRead, queueAndSetRegistersRead, pagedRegistersRead⟩

end Sys2Proof.Machine
end
